-- ==== Sys2Proof/Word.lean ====
section
/-! DEFINITION. The one data width of the hardware: a byte (00_scope.md R7, 20_memory.md R43). -/

namespace Sys2Proof

/-- Every stored or transmitted quantity is one unsigned byte (R7, R43). -/
abbrev Byte := BitVec 8

end Sys2Proof
end

