-- ==== Sys2Proof/Syntax.lean ====
section
/-! DEFINITION. The operations of the block (00_scope.md R3), one constructor of `Instr` for each row of the opcode
table, and what a line of a stimulus script is (30_encoding.md R71). -/

namespace Sys2Proof

/-- The four one-byte streams of the two links (R60 to R64). -/
inductive Stream where
  | hostToDevice
  | domeToDevice
  | deviceToDome
  | deviceToHost
  deriving DecidableEq, Repr

/-- The receive buffers, the operands of RX_ARRIVE, CANREAD and READ (R82 to R84). -/
inductive RxBuf where
  | hrx
  | drx
  deriving DecidableEq, Repr

/-- The transmit buffers, the operands of WRITE and TX_DRAIN (R85, R88). -/
inductive TxBuf where
  | htx
  | dtx
  deriving DecidableEq, Repr

/-- The four ring buffers (R23, R40). -/
inductive BufId where
  | hrx
  | htx
  | drx
  | dtx
  deriving DecidableEq, Repr

/-- The operations of the block: the fifteen messages of R61 to R64 and the twelve events of R69. -/
inductive Instr where
  | hDisable
  | hArm (v : Byte)
  | hRsv (v : Byte)
  | hSiren
  | dClosedA
  | dClosedB
  | dClosedBoth
  | dOther (c : Byte)
  | cStepA
  | cStepB
  | cReset
  | sDisabled
  | sCount (v : Byte)
  | sClosing
  | sTriggered
  | clk
  | pulse
  | tick
  | rxArrive (f : RxBuf) (b : Byte)
  | canRead (f : RxBuf)
  | read (f : RxBuf)
  | write (f : TxBuf) (b : Byte)
  | txDrain (f : TxBuf)
  | hostPoll
  | domePoll
  | status
  | reset
  deriving DecidableEq, Repr

/-- The four host commands, what a host byte decodes to (R61, R114). -/
inductive HostCommand where
  | disable
  | arm (v : Byte)
  | siren
  | reserved (v : Byte)
  deriving DecidableEq, Repr

/-- The four dome responses, what a dome byte decodes to (R64). -/
inductive DomeResponse where
  | closedA
  | closedB
  | closedBoth
  | other (c : Byte)
  deriving DecidableEq, Repr

/-- The operations without an encoding (R69), as a script names them. -/
inductive Event where
  | clk
  | pulse
  | tick
  | rxArrive (f : RxBuf) (b : Byte)
  | canRead (f : RxBuf)
  | read (f : RxBuf)
  | write (f : TxBuf) (b : Byte)
  | txDrain (f : TxBuf)
  | hostPoll
  | domePoll
  | status
  | reset
  deriving DecidableEq, Repr

/-- One line of a stimulus script (R71): a byte on a stream, decoded by that stream's map (R61 to R64), or an event,
which has no bit pattern (R69). -/
inductive Stimulus where
  | message (stream : Stream) (b : Byte)
  | event (e : Event)
  deriving DecidableEq, Repr

/-- The operations that the agents of R178 perform by themselves. CANREAD, READ, WRITE, STATUS and the messages are
performed only inside one of these. -/
inductive AgentOp where
  | clk
  | pulse
  | tick
  | hostPoll
  | domePoll
  | rxArrive (f : RxBuf) (b : Byte)
  | txDrain (f : TxBuf)
  | reset
  deriving DecidableEq, Repr, Inhabited

end Sys2Proof
end

