-- ==== Sys2Proof/Config.lean ====
section
/-! DEFINITION. The implementation parameters of 00_scope.md R6, their legal ranges, and the free values: what the
spec leaves to an implementation or to the outside world, as constants without a body. -/

namespace Sys2Proof

/-- STATUS_SAMPLE of R6: from which state a tick's status byte is computed (43_tick.md R130). -/
inductive StatusSample where
  | entry
  | exit
  deriving DecidableEq, Repr

/-- The parameters of R6. TICK_PERIOD, MAX_TIMEOUT and SENTINEL are fixed by the spec and are no fields. -/
structure Config where
  /-- HAS_SIREN -/
  hasSiren : Bool
  /-- HAS_RELAY_RESET -/
  hasRelayReset : Bool
  /-- MAX_SHUTTER_CLOSE_STEPS -/
  maxShutterCloseSteps : Byte
  /-- RELAY_RESET_STEPS -/
  relayResetSteps : Byte
  /-- SIREN_ARM_STEPS -/
  sirenArmSteps : Byte
  /-- SIREN_PREWARN_COUNTS -/
  sirenPrewarnCounts : Byte
  /-- TICKS_PER_COUNT -/
  ticksPerCount : Nat
  /-- STATUS_SAMPLE -/
  statusSample : StatusSample
  /-- K_HRX -/
  kHrx : Nat
  /-- K_HTX -/
  kHtx : Nat
  /-- K_DRX -/
  kDrx : Nat
  /-- K_DTX -/
  kDtx : Nat
  /-- F_CLK_HZ -/
  fClkHz : Nat
  deriving DecidableEq, Repr

namespace Config

/-- The ranges R6 gives: SIREN_PREWARN_COUNTS in 0..239, TICKS_PER_COUNT 1 or 2, every K in 1..8, F_CLK_HZ even and
at least 2. -/
def wf (c : Config) : Bool :=
  c.sirenPrewarnCounts.toNat ≤ 239
    && (c.ticksPerCount == 1 || c.ticksPerCount == 2)
    && (1 ≤ c.kHrx && c.kHrx ≤ 8) && (1 ≤ c.kHtx && c.kHtx ≤ 8)
    && (1 ≤ c.kDrx && c.kDrx ≤ 8) && (1 ≤ c.kDtx && c.kDtx ≤ 8)
    && (2 ≤ c.fClkHz && c.fClkHz % 2 == 0)

/-- OPEN in R6: whether the built variant has the siren (log 1). -/
opaque openHasSiren : Bool

/-- OPEN in R6: whether the built variant has the bumper-guard relay (log 1). -/
opaque openHasRelayReset : Bool

/-- OPEN in R6, any byte (log 1). -/
opaque openMaxShutterCloseSteps : Byte

/-- OPEN in R6, any byte (log 1). -/
opaque openRelayResetSteps : Byte

/-- OPEN in R6, any byte (log 1). -/
opaque openSirenArmSteps : Byte

/-- OPEN in R6, any value of 0..239 (log 1). -/
opaque openSirenPrewarnCounts : Fin 240

/-- OPEN in R6: F_CLK_HZ is any even number from 2 on, written `2 * (n + 1)` for this free n (log 1). -/
opaque openHalfClkLessOne : Nat

/-- The parameters of the machine that `State.reset` starts: R6's default where it has one, a free value where it
says OPEN (log 1). -/
def build : Config where
  hasSiren := openHasSiren
  hasRelayReset := openHasRelayReset
  maxShutterCloseSteps := openMaxShutterCloseSteps
  relayResetSteps := openRelayResetSteps
  sirenArmSteps := openSirenArmSteps
  sirenPrewarnCounts := BitVec.ofNat 8 openSirenPrewarnCounts.val
  ticksPerCount := 1
  statusSample := .entry
  kHrx := 8
  kHtx := 8
  kDrx := 8
  kDtx := 8
  fClkHz := 2 * (openHalfClkLessOne + 1)

/-- The value of a storage slot that nothing has written since reset: `any value` (93_implementation_defined.md U6),
a fresh one at each draw (log 8). -/
opaque freeByte : Nat → Byte

/-- The operation that is taken next where no script says: any operation of any agent (60_exceptions.md R176, R30),
a fresh choice at each draw (log 2). -/
opaque environment : Nat → AgentOp

end Config

end Sys2Proof
end

