-- ==== Sys2Proof/WellFormed.lean ====
section
/-! DEFINITION. Which terms of `Instr` are operations of the hardware: the operand ranges of R61, R62 and R64 and the
variant conditions of R61 and R63. -/

namespace Sys2Proof

namespace Instr

/-- An H.ARM or S.COUNT operand is 1..240 (R61, R62). -/
def isCount (v : Byte) : Bool := 1 ≤ v.toNat && v.toNat ≤ 240

/-- An H.RSV operand is 241..254, and 255 too on a variant without a siren (R61, R112). -/
def isReserved (c : Config) (v : Byte) : Bool :=
  241 ≤ v.toNat && (v.toNat ≤ 254 || !c.hasSiren)

/-- A D.OTHER operand is any byte but the three that R64 assigns. -/
def isOtherDome (b : Byte) : Bool := b != 0x58#8 && b != 0x59#8 && b != 0x30#8

/-- H.SIREN exists with HAS_SIREN only, C.RESET with HAS_RELAY_RESET only; operands lie in their ranges. -/
def wellFormed (c : Config) : Instr → Bool
  | hArm v => isCount v
  | hRsv v => isReserved c v
  | hSiren => c.hasSiren
  | dOther b => isOtherDome b
  | cReset => c.hasRelayReset
  | sCount v => isCount v
  | hDisable => true
  | dClosedA => true
  | dClosedB => true
  | dClosedBoth => true
  | cStepA => true
  | cStepB => true
  | sDisabled => true
  | sClosing => true
  | sTriggered => true
  | clk => true
  | pulse => true
  | tick => true
  | rxArrive _ _ => true
  | canRead _ => true
  | read _ => true
  | write _ _ => true
  | txDrain _ => true
  | hostPoll => true
  | domePoll => true
  | status => true
  | reset => true

end Instr

end Sys2Proof
end

