-- ==== Sys2Proof/Decode.lean ====
section
/-! DEFINITION. The decoder of the four one-byte streams and of the event lines of a script, and the encoder
(30_encoding.md R60 to R74). Every message is one byte, decoded alone by the map of its stream (R60, R68). -/

namespace Sys2Proof

/-- A byte that decodes to nothing, by name: it stands on an outgoing stream on which the block never sends it
(R62, R63). -/
inductive DecodeError where
  | neverSent (stream : Stream) (b : Byte)
  deriving DecidableEq, Repr

/-- What the decoder answers. -/
inductive Decoded where
  | instr (i : Instr)
  | rejected (e : DecodeError)
  deriving DecidableEq, Repr

/-- The instruction, where there is one. -/
def Decoded.toInstr? : Decoded → Option Instr
  | .instr i => some i
  | .rejected _ => none

/-- `'0'` (R66). -/
def charZero : Byte := 0x30#8
/-- `'A'` (R66). -/
def charA : Byte := 0x41#8
/-- `'B'` (R66). -/
def charB : Byte := 0x42#8
/-- `'R'` (R66). -/
def charR : Byte := 0x52#8
/-- `'X'` (R66). -/
def charX : Byte := 0x58#8
/-- `'Y'` (R66). -/
def charY : Byte := 0x59#8

/-- The dispatch of a host byte, in the order R114 tests it (the map of R61). -/
def hostCommand (c : Config) (v : Byte) : HostCommand :=
  if v = 0#8 then .disable
  else if v.toNat ≤ 240 then .arm v
  else if v = 0xFF#8 ∧ c.hasSiren = true then .siren
  else .reserved v

/-- The dispatch of a dome byte (R64). -/
def domeResponse (b : Byte) : DomeResponse :=
  if b = charX then .closedA
  else if b = charY then .closedB
  else if b = charZero then .closedBoth
  else .other b

/-- The operation of a host command (R61). -/
def HostCommand.instr : HostCommand → Instr
  | .disable => .hDisable
  | .arm v => .hArm v
  | .siren => .hSiren
  | .reserved v => .hRsv v

/-- The operation of a dome response (R64). -/
def DomeResponse.instr : DomeResponse → Instr
  | .closedA => .dClosedA
  | .closedB => .dClosedB
  | .closedBoth => .dClosedBoth
  | .other b => .dOther b

/-- The command bytes that the block sends to the dome (R63); `'R'` only with HAS_RELAY_RESET. -/
def decodeCommand (c : Config) (b : Byte) : Decoded :=
  if b = charA then .instr .cStepA
  else if b = charB then .instr .cStepB
  else if b = charR ∧ c.hasRelayReset = true then .instr .cReset
  else .rejected (.neverSent .deviceToDome b)

/-- The status bytes that the block sends to the host (R62); 241..253 are never sent. -/
def decodeStatus (b : Byte) : Decoded :=
  if b = 0#8 then .instr .sDisabled
  else if b.toNat ≤ 240 then .instr (.sCount b)
  else if b = 0xFE#8 then .instr .sClosing
  else if b = 0xFF#8 then .instr .sTriggered
  else .rejected (.neverSent .deviceToHost b)

/-- The operation that an event line names (R69). -/
def Event.instr : Event → Instr
  | .clk => .clk
  | .pulse => .pulse
  | .tick => .tick
  | .rxArrive f b => .rxArrive f b
  | .canRead f => .canRead f
  | .read f => .read f
  | .write f b => .write f b
  | .txDrain f => .txDrain f
  | .hostPoll => .hostPoll
  | .domePoll => .domePoll
  | .status => .status
  | .reset => .reset

/-- The decoder: total on every script line. A byte is read by the map of its stream, whatever the state (R68). -/
def decode (c : Config) : Stimulus → Decoded
  | .message .hostToDevice b => .instr (hostCommand c b).instr
  | .message .domeToDevice b => .instr (domeResponse b).instr
  | .message .deviceToDome b => decodeCommand c b
  | .message .deviceToHost b => decodeStatus b
  | .event e => .instr e.instr

/-- The encoder, from the tables of R61 to R64 and R69. -/
def encode : Instr → Stimulus
  | .hDisable => .message .hostToDevice 0x00#8
  | .hArm v => .message .hostToDevice v
  | .hRsv v => .message .hostToDevice v
  | .hSiren => .message .hostToDevice 0xFF#8
  | .dClosedA => .message .domeToDevice charX
  | .dClosedB => .message .domeToDevice charY
  | .dClosedBoth => .message .domeToDevice charZero
  | .dOther b => .message .domeToDevice b
  | .cStepA => .message .deviceToDome charA
  | .cStepB => .message .deviceToDome charB
  | .cReset => .message .deviceToDome charR
  | .sDisabled => .message .deviceToHost 0x00#8
  | .sCount v => .message .deviceToHost v
  | .sClosing => .message .deviceToHost 0xFE#8
  | .sTriggered => .message .deviceToHost 0xFF#8
  | .clk => .event .clk
  | .pulse => .event .pulse
  | .tick => .event .tick
  | .rxArrive f b => .event (.rxArrive f b)
  | .canRead f => .event (.canRead f)
  | .read f => .event (.read f)
  | .write f b => .event (.write f b)
  | .txDrain f => .event (.txDrain f)
  | .hostPoll => .event .hostPoll
  | .domePoll => .event .domePoll
  | .status => .event .status
  | .reset => .event .reset

/-- The script line of an agent's operation (R178). -/
def AgentOp.event : AgentOp → Event
  | .clk => .clk
  | .pulse => .pulse
  | .tick => .tick
  | .hostPoll => .hostPoll
  | .domePoll => .domePoll
  | .rxArrive f b => .rxArrive f b
  | .txDrain f => .txDrain f
  | .reset => .reset

/-! ### The mask and match blocks of the opcode table (R73) -/

/-- `(b & mask) = match` for one of the blocks `(match, mask)` (R73). -/
def inBlocks (blocks : List (Byte × Byte)) (b : Byte) : Bool :=
  blocks.any fun p => b &&& p.2 == p.1

/-- The blocks of 1..240 (R73). -/
def countBlocks : List (Byte × Byte) :=
  [(0x01#8, 0xFF#8), (0x02#8, 0xFE#8), (0x04#8, 0xFC#8), (0x08#8, 0xF8#8), (0x10#8, 0xF0#8), (0x20#8, 0xE0#8),
   (0x40#8, 0xC0#8), (0x80#8, 0xC0#8), (0xC0#8, 0xE0#8), (0xE0#8, 0xF0#8), (0xF0#8, 0xFF#8)]

/-- The blocks of 241..254 (R73). -/
def reservedBlocks : List (Byte × Byte) :=
  [(0xF1#8, 0xFF#8), (0xF2#8, 0xFE#8), (0xF4#8, 0xFC#8), (0xF8#8, 0xFC#8), (0xFC#8, 0xFE#8), (0xFE#8, 0xFF#8)]

/-- A row of the opcode table, as R73 says to read it. -/
inductive TableRow where
  /-- the bytes of a stream that lie in one of the mask and match blocks -/
  | bytes (stream : Stream) (blocks : List (Byte × Byte))
  /-- the bytes of a stream that are none of those listed (`complement_of`) -/
  | others (stream : Stream) (listed : List Byte)
  /-- an event: no bit pattern -/
  | event
  deriving DecidableEq, Repr

/-- The script lines that belong to a row. -/
def TableRow.accepts : TableRow → Stimulus → Bool
  | .bytes st blocks, .message st' b => st == st' && inBlocks blocks b
  | .others st listed, .message st' b => st == st' && !listed.contains b
  | .event, .event _ => true
  | .bytes _ _, .event _ => false
  | .others _ _, .event _ => false
  | .event, .message _ _ => false

/-- One fixed byte as a block. -/
def oneByte (b : Byte) : List (Byte × Byte) := [(b, 0xFF#8)]

/-- The row of each operation, from the table's `match`, `mask`, `blocks`, `complement_of` and `condition` fields. A
row whose condition is false has no bytes, and without a siren the row of H.RSV has 0xFF too (R61, R73). -/
def Instr.tableRow (c : Config) : Instr → TableRow
  | .hDisable => .bytes .hostToDevice (oneByte 0x00#8)
  | .hArm _ => .bytes .hostToDevice countBlocks
  | .hRsv _ => .bytes .hostToDevice (if c.hasSiren then reservedBlocks else reservedBlocks ++ oneByte 0xFF#8)
  | .hSiren => .bytes .hostToDevice (if c.hasSiren then oneByte 0xFF#8 else [])
  | .dClosedA => .bytes .domeToDevice (oneByte 0x58#8)
  | .dClosedB => .bytes .domeToDevice (oneByte 0x59#8)
  | .dClosedBoth => .bytes .domeToDevice (oneByte 0x30#8)
  | .dOther _ => .others .domeToDevice [0x30#8, 0x58#8, 0x59#8]
  | .cStepA => .bytes .deviceToDome (oneByte 0x41#8)
  | .cStepB => .bytes .deviceToDome (oneByte 0x42#8)
  | .cReset => .bytes .deviceToDome (if c.hasRelayReset then oneByte 0x52#8 else [])
  | .sDisabled => .bytes .deviceToHost (oneByte 0x00#8)
  | .sCount _ => .bytes .deviceToHost countBlocks
  | .sClosing => .bytes .deviceToHost (oneByte 0xFE#8)
  | .sTriggered => .bytes .deviceToHost (oneByte 0xFF#8)
  | .clk => .event
  | .pulse => .event
  | .tick => .event
  | .rxArrive _ _ => .event
  | .canRead _ => .event
  | .read _ => .event
  | .write _ _ => .event
  | .txDrain _ => .event
  | .hostPoll => .event
  | .domePoll => .event
  | .status => .event
  | .reset => .event

/-! ### Bare table words -/

/-- A table word names no stream. The stream it is read on is the one whose row fixes all eight bits to this value:
the dome responses 0x58, 0x59, 0x30, the commands 0x41, 0x42, 0x52 and the status 0xFE. Every other word is read on
the host's stream, 0x00 and 0xFF among them, which a row of each host stream fixes (log 11). -/
def tableStream (b : Byte) : Stream :=
  if b = charX ∨ b = charY ∨ b = charZero then .domeToDevice
  else if b = charA ∨ b = charB ∨ b = charR then .deviceToDome
  else if b = 0xFE#8 then .deviceToHost
  else .hostToDevice

/-- The script line of a bare table word. -/
def tableStimulus (w : Nat) : Stimulus :=
  .message (tableStream (BitVec.ofNat 8 w)) (BitVec.ofNat 8 w)

/-- `c` with the condition met under which the row of a table word exists (R73): HAS_SIREN for 0xFF, HAS_RELAY_RESET
for `'R'`. No other word's row has a condition. -/
def Config.meetingCondition (c : Config) (b : Byte) : Config :=
  { c with
    hasSiren := if b = 0xFF#8 then true else c.hasSiren
    hasRelayReset := if b = charR then true else c.hasRelayReset }

/-- The instruction that the decoder reads from a bare table word. A message is eight bits (R60); an event has none,
so a word stands for no event. -/
def decodeTableWord (nbits w : Nat) : Option Instr :=
  if nbits = 0 ∨ 256 ≤ w then none
  else (decode (Config.build.meetingCondition (BitVec.ofNat 8 w)) (tableStimulus w)).toInstr?

end Sys2Proof
end

