-- ==== Sys2Proof/Machine/State.lean ====
section
/-! DEFINITION. The state of the block (10_state.md R12 to R23), its one-cycle output signals (R31), the parameters it
was built with (00_scope.md R6), the model's own fields, and the state after reset (R32). -/

namespace Sys2Proof.Machine

/-- The storage of one ring buffer (20_memory.md R41): the written slots and their bytes, slots strictly rising. A slot
that is not listed holds no value: nothing has written it since reset (R32, R46). -/
abbrev Memory := List Host.Cell

/-- The canonical form of a storage: slots strictly rising, so that equal storages are equal lists. -/
abbrev Memory.wf (m : Memory) : Prop := m.Pairwise fun p q => p.1 < q.1

/-- One ring buffer (R23). A cursor is a K-bit unsigned integer, advanced modulo `2^K`. -/
structure RingBuf where
  /-- the storage `f.buf` -/
  mem : Memory
  /-- the read cursor `f.rd`, advanced by the consumer -/
  rd : Nat
  /-- the write cursor `f.wr`, advanced by the producer -/
  wr : Nat
  deriving DecidableEq, Repr

/-- An empty ring buffer as reset leaves it (R32): both cursors 0, no slot written. -/
def RingBuf.empty : RingBuf := ⟨[], 0, 0⟩

/-- What an operation returns to its caller (R83, R84, R150; log 4). -/
inductive Returned where
  /-- CANREAD's truth value -/
  | flag (b : Bool)
  /-- READ's or STATUS's byte -/
  | byte (b : Byte)
  deriving DecidableEq, Repr

/-- A fault of the machine. There is none: "The hardware raises no synchronous exception" (60_exceptions.md R170), so
the type has no constructor (log 18). Safe. -/
inductive Fault
  deriving DecidableEq, Repr

/-- Why a step has no meaning. -/
inductive Refusal where
  /-- An operation that the model gives no meaning. No arm of `exec` answers with it. Safe. -/
  | notModelled (mnemonic : String)
  /-- `step` raises it where a script line names a byte on an outgoing stream that the block never sends there
  (30_encoding.md R62, R63): no operation of the table has that encoding (log 17). Safe. -/
  | undecodable (e : DecodeError)
  deriving DecidableEq, Repr

/-- The machine. Each field cites the rule that names it. -/
structure State where
  /-- the parameters of R6, which no operation writes (R26, log 1) -/
  cfg : Config
  /-- the HeartbeatCounter (R12) -/
  hb : Byte
  /-- the TriggeredFlag (R13) -/
  trig : Bool
  /-- the ActiveFlag (R14) -/
  act : Bool
  /-- ShutterCloseSteps A (R15) -/
  stepsA : Byte
  /-- ShutterCloseSteps B (R15) -/
  stepsB : Byte
  /-- the SirenArmSteps (R16); read and written through `sirenCount` and `setSiren` -/
  siren : Byte
  /-- the RelayResetSteps (R17); read and written through `rrstCount` and `setRrst` -/
  rrst : Byte
  /-- the RateLimitGate (R18) -/
  gate : Bool
  /-- the blink indicator phase (R19) -/
  blink : Bool
  /-- the cadence prescaler (R20) -/
  phase : Nat
  /-- the pending-tick latch `tick_pend` (R21) -/
  tickPend : Bool
  /-- the timer count (R22) -/
  tcnt : Nat
  /-- host receive (R23) -/
  hrx : RingBuf
  /-- host transmit (R23) -/
  htx : RingBuf
  /-- dome receive (R23) -/
  drx : RingBuf
  /-- dome transmit (R23) -/
  dtx : RingBuf
  /-- `htx_valid` and `htx_data` (R31): the byte handed to the host transport in this step, if any (log 5) -/
  htxOut : Option Byte
  /-- `dtx_valid` and `dtx_data` (R31): the byte handed to the dome transport in this step, if any (log 5) -/
  dtxOut : Option Byte
  /-- `tick_o` (R31, R101; log 5) -/
  tickO : Bool
  /-- the model's own: what this step's operation returned to its caller (log 4) -/
  ret : Option Returned
  /-- the model's own: the script lines still to run (R71, log 2) -/
  script : List Stimulus
  /-- the model's own: how many free values have been drawn (log 2, 8) -/
  draws : Nat
  deriving DecidableEq, Repr

/-- The machine of parameters `c` right after reset (10_state.md R32, 70_reset_and_hazards.md R190). -/
def State.resetWith (c : Config) : State where
  cfg := c
  hb := 0#8
  trig := false
  act := false
  stepsA := 0#8
  stepsB := 0#8
  siren := 0#8
  rrst := 0#8
  gate := false
  blink := false
  phase := 0
  tickPend := false
  tcnt := 0
  hrx := RingBuf.empty
  htx := RingBuf.empty
  drx := RingBuf.empty
  dtx := RingBuf.empty
  htxOut := none
  dtxOut := none
  tickO := false
  ret := none
  script := []
  draws := 0

/-- The machine right after reset, with the parameters it was built with (R32, log 1). -/
def State.reset : State := State.resetWith Config.build

end Sys2Proof.Machine
end

