-- ==== Sys2Proof/Machine/Ops.lean ====
section
/-! DEFINITION. The named operations over storages, ring buffers and interrupt requests: 20_memory.md R42,
40_bytechannel.md R80, R81, R83, and the entry of the tick interrupt (60_exceptions.md R172, R177). -/

namespace Sys2Proof.Machine

/-- `MemRead(f, i, 1)`: the byte last written at slot `i` (R42), none where nothing has written it (R46). -/
def Memory.read : Memory → Nat → Option Byte
  | [], _ => none
  | (a, v) :: m, i => if i = a then some v else Memory.read m i

/-- `MemWrite(f, i, 1, v)` (R42), keeping the slots strictly rising. -/
def Memory.write : Memory → Nat → Byte → Memory
  | [], i, b => [(i, b)]
  | (a, v) :: m, i, b =>
    if i < a then (i, b) :: (a, v) :: m
    else if i = a then (i, b) :: m
    else (a, v) :: Memory.write m i b

end Sys2Proof.Machine

namespace Sys2Proof

/-- The ring buffer that a receive operand names. -/
def RxBuf.id : RxBuf → BufId
  | .hrx => .hrx
  | .drx => .drx

/-- The ring buffer that a transmit operand names. -/
def TxBuf.id : TxBuf → BufId
  | .htx => .htx
  | .dtx => .dtx

/-- K of a ring buffer (R6, R23). -/
def Config.k (c : Config) : BufId → Nat
  | .hrx => c.kHrx
  | .htx => c.kHtx
  | .drx => c.kDrx
  | .dtx => c.kDtx

/-- `N = 2^K`, the number of slots of a ring buffer (R23, R41). -/
def Config.size (c : Config) (f : BufId) : Nat := 2 ^ c.k f

/-- `TICK_DIV = F_CLK_HZ / 2` (R6, R100). -/
def Config.tickDiv (c : Config) : Nat := c.fClkHz / 2

end Sys2Proof

namespace Sys2Proof.Machine

namespace State

/-- The ring buffer of a name. -/
def buf (s : State) : BufId → RingBuf
  | .hrx => s.hrx
  | .htx => s.htx
  | .drx => s.drx
  | .dtx => s.dtx

/-- `s` with the ring buffer of that name replaced. -/
def setBuf (s : State) (f : BufId) (r : RingBuf) : State :=
  match f with
  | .hrx => { s with hrx := r }
  | .htx => { s with htx := r }
  | .drx => { s with drx := r }
  | .dtx => { s with dtx := r }

/-- `count(f) = (f.wr - f.rd) mod N` (R81). -/
def count (s : State) (f : BufId) : Nat :=
  ((s.buf f).wr + (s.cfg.size f - (s.buf f).rd)) % s.cfg.size f

/-- CANREAD's test `f.rd != f.wr` (R81, R83). -/
def bufCanRead (s : State) (f : BufId) : Bool := (s.buf f).rd != (s.buf f).wr

/-- `f.full`: `(f.wr + 1) mod N = f.rd`, one slot being left unused (R81). -/
def bufFull (s : State) (f : BufId) : Bool := ((s.buf f).wr + 1) % s.cfg.size f == (s.buf f).rd

/-- `push(f, v)`: the storage at the write cursor is written, then the cursor advances modulo N (R80, R51). -/
def push (s : State) (f : BufId) (v : Byte) : State :=
  s.setBuf f
    { s.buf f with
      mem := Memory.write (s.buf f).mem (s.buf f).wr v
      wr := ((s.buf f).wr + 1) % s.cfg.size f }

/-- The storage byte at the read cursor, the byte that a pop returns (R80). A slot that nothing has written since
reset gives a free byte (U6, log 8). -/
def front (s : State) (f : BufId) : Byte :=
  match Memory.read (s.buf f).mem (s.buf f).rd with
  | some b => b
  | none => Config.freeByte s.draws

/-- How many free values a pop of `f` draws: one where the slot has not been written, none otherwise (log 8). -/
def frontDraws (s : State) (f : BufId) : Nat :=
  match Memory.read (s.buf f).mem (s.buf f).rd with
  | some _ => 0
  | none => 1

/-- The state after `pop(f)`: the read cursor advances modulo N (R80, R51). The byte is `front`. -/
def popped (s : State) (f : BufId) : State :=
  { s.setBuf f { s.buf f with rd := ((s.buf f).rd + 1) % s.cfg.size f } with draws := s.draws + s.frontDraws f }

/-- The entry of the tick interrupt: the request is latched in `tick_pend`, a second request while it is set is
merged (R102, R172). Taking an interrupt saves nothing, changes no mode and jumps nowhere (R177). -/
def raiseTick (s : State) : State := { s with tickPend := true }

/-- The end of the tick interrupt: the request is cleared (R120, R172). There is nothing to restore (R179). -/
def clearTick (s : State) : State := { s with tickPend := false }

end State

end Sys2Proof.Machine
end

