-- ==== Sys2Proof/Machine/Channel.lean ====
section
/-! DEFINITION. The byte channel: RX_ARRIVE, CANREAD, READ, WRITE, TX_DRAIN (40_bytechannel.md R82 to R88). An
operation that is held or not enabled has no step: it leaves the state as it was (00_scope.md R8, log 3). -/

namespace Sys2Proof.Machine

/-- The byte handed to a transport (R31, R88): `htx_valid`, `htx_data` or `dtx_valid`, `dtx_data`. -/
def State.handOver (s : State) (f : TxBuf) (b : Byte) : State :=
  match f with
  | .htx => { s with htxOut := some b }
  | .dtx => { s with dtxOut := some b }

/-- RX_ARRIVE(f, b) (R82): the byte is pushed; at a full buffer it is discarded. -/
def execRxArrive (f : RxBuf) (b : Byte) (s : State) : Host.Outcome State Fault Refusal :=
  .next (if s.bufFull f.id then s else s.push f.id b)

/-- CANREAD(f) (R83): returns whether a byte awaits; writes nothing of the block. -/
def execCanRead (f : RxBuf) (s : State) : Host.Outcome State Fault Refusal :=
  .next { s with ret := some (.flag (s.bufCanRead f.id)) }

/-- READ(f) (R84): returns the popped byte; holds while the buffer is empty. -/
def execRead (f : RxBuf) (s : State) : Host.Outcome State Fault Refusal :=
  .next (if s.bufCanRead f.id then { s.popped f.id with ret := some (.byte (s.front f.id)) } else s)

/-- WRITE(f, b) (R85): the byte is pushed; holds while the buffer is full. -/
def execWrite (f : TxBuf) (b : Byte) (s : State) : Host.Outcome State Fault Refusal :=
  .next (if s.bufFull f.id then s else s.push f.id b)

/-- TX_DRAIN(f) (R88): the oldest byte leaves the buffer and is handed to the transport; nothing on an empty buffer.
That the transport is ready is what the event says (log 13). -/
def execTxDrain (f : TxBuf) (s : State) : Host.Outcome State Fault Refusal :=
  .next (if s.bufCanRead f.id then (s.popped f.id).handOver f (s.front f.id) else s)

end Sys2Proof.Machine
end

