-- ==== Sys2Proof/Machine/DomeResponses.lean ====
section
/-! DEFINITION. The dome responses D.CLOSEDA, D.CLOSEDB, D.CLOSEDBOTH, D.OTHER and their dispatch
(44_dome_responses.md R140 to R144). They are honoured in every state (R144). Taking the byte out of DRX is
DOME_POLL's part (46_mainloop.md R161, log 9). -/

namespace Sys2Proof.Machine

namespace State

/-- A dome response's effect on the controller (R140 to R143): it zeroes step counters and nothing else. -/
def obeyDome (s : State) : DomeResponse → State
  | .closedA => { s with stepsA := 0#8 }
  | .closedB => { s with stepsB := 0#8 }
  | .closedBoth => { s with stepsA := 0#8, stepsB := 0#8 }
  | .other _ => s

/-- `onDomeByte(c)` (R64, R161). -/
def onDomeByte (s : State) (c : Byte) : State := s.obeyDome (domeResponse c)

end State

/-- D.CLOSEDA (R140). -/
def execDClosedA (s : State) : Host.Outcome State Fault Refusal :=
  .next (s.obeyDome .closedA)

/-- D.CLOSEDB (R141). -/
def execDClosedB (s : State) : Host.Outcome State Fault Refusal :=
  .next (s.obeyDome .closedB)

/-- D.CLOSEDBOTH (R142). -/
def execDClosedBoth (s : State) : Host.Outcome State Fault Refusal :=
  .next (s.obeyDome .closedBoth)

/-- D.OTHER (R143): no controller variable changes. -/
def execDOther (c : Byte) (s : State) : Host.Outcome State Fault Refusal :=
  .next (s.obeyDome (.other c))

end Sys2Proof.Machine
end

