-- ==== Sys2Proof/Machine/Operands.lean ====
section
/-! DEFINITION. The hard-wired counters of absent variants (10_state.md R16, R17), the command bytes (30_encoding.md
R63) with the counter each uses up, and the choice of the command that a tick sends (43_tick.md R121, R126). -/

namespace Sys2Proof.Machine

/-- The three commands on the dome link (R63). -/
inductive Command where
  | relayReset
  | stepA
  | stepB
  deriving DecidableEq, Repr

/-- `code(sel)` of R131: the command's byte (R63, R66). -/
def Command.code : Command → Byte
  | .relayReset => charR
  | .stepA => charA
  | .stepB => charB

namespace State

/-- `siren` as every rule reads it: hard-wired to 0 without HAS_SIREN (R16). -/
def sirenCount (s : State) : Byte := if s.cfg.hasSiren then s.siren else 0#8

/-- A write of `siren`: without HAS_SIREN no operation writes it (R16). -/
def setSiren (s : State) (v : Byte) : State := if s.cfg.hasSiren then { s with siren := v } else s

/-- `rrst` as every rule reads it: hard-wired to 0 without HAS_RELAY_RESET (R17). -/
def rrstCount (s : State) : Byte := if s.cfg.hasRelayReset then s.rrst else 0#8

/-- A write of `rrst`: without HAS_RELAY_RESET no operation writes it (R17). -/
def setRrst (s : State) (v : Byte) : State := if s.cfg.hasRelayReset then { s with rrst := v } else s

/-- `sel` of R121, by priority: nothing unless `act`, then the relay reset, then shutter A, then shutter B. -/
def sel (s : State) : Option Command :=
  if s.act = false then none
  else if s.rrstCount ≠ 0#8 then some .relayReset
  else if s.stepsA ≠ 0#8 then some .stepA
  else if s.stepsB ≠ 0#8 then some .stepB
  else none

/-- "decrement whichever counter was used" (R126). -/
def useCounter (s : State) : Command → State
  | .relayReset => s.setRrst (s.rrstCount - 1#8)
  | .stepA => { s with stepsA := s.stepsA - 1#8 }
  | .stepB => { s with stepsB := s.stepsB - 1#8 }

/-- One command leaves for the dome: its byte is pushed into DTX, its counter is decremented and the rate-limit gate
is set (R126, R127; one branch of R132 step 4). -/
def sendCommand (s : State) (c : Command) : State :=
  { (s.push .dtx c.code).useCounter c with gate := true }

end State

end Sys2Proof.Machine
end

