-- ==== Sys2Proof/Machine/HostCommands.lean ====
section
/-! DEFINITION. The host commands H.DISABLE, H.ARM, H.RSV, H.SIREN and their dispatch (42_host_commands.md R110 to
R115). Taking the byte out of HRX is HOST_POLL's part (46_mainloop.md R160, log 9). -/

namespace Sys2Proof.Machine

namespace State

/-- H.DISABLE (R110): the counter, the triggered flag and the active flag are cleared; nothing else. -/
def disable (s : State) : State := { s with hb := 0#8, trig := false, act := false }

/-- H.ARM v (R111): ignored while triggered. -/
def arm (s : State) (v : Byte) : State := if s.trig then s else { s with hb := v }

/-- H.SIREN (R113): the siren counter is loaded; nothing else. -/
def armSiren (s : State) : State := s.setSiren s.cfg.sirenArmSteps

/-- A host command's effect on the controller (R110 to R113). -/
def obeyHost (s : State) : HostCommand → State
  | .disable => s.disable
  | .arm v => s.arm v
  | .siren => s.armSiren
  | .reserved _ => s

/-- `onHostByte(v)` (R114). -/
def onHostByte (s : State) (v : Byte) : State := s.obeyHost (hostCommand s.cfg v)

end State

/-- H.DISABLE (R110). -/
def execHDisable (s : State) : Host.Outcome State Fault Refusal :=
  .next (s.obeyHost .disable)

/-- H.ARM v (R111). -/
def execHArm (v : Byte) (s : State) : Host.Outcome State Fault Refusal :=
  .next (s.obeyHost (.arm v))

/-- H.RSV (R112): no controller variable changes. -/
def execHRsv (v : Byte) (s : State) : Host.Outcome State Fault Refusal :=
  .next (s.obeyHost (.reserved v))

/-- H.SIREN (R113). -/
def execHSiren (s : State) : Host.Outcome State Fault Refusal :=
  .next (s.obeyHost .siren)

end Sys2Proof.Machine
end

