-- ==== Sys2Proof/Machine/MainLoop.lean ====
section
/-! DEFINITION. The main loop's polls HOST_POLL and DOME_POLL (46_mainloop.md R160, R161). A poll of an empty buffer is
not enabled and leaves the state as it was (log 3). -/

namespace Sys2Proof.Machine

/-- HOST_POLL (R160): the pop and the command are one atomic operation. -/
def execHostPoll (s : State) : Host.Outcome State Fault Refusal :=
  .next (if s.bufCanRead .hrx then (s.popped .hrx).onHostByte (s.front .hrx) else s)

/-- DOME_POLL (R161): the pop and the response are one atomic operation. -/
def execDomePoll (s : State) : Host.Outcome State Fault Refusal :=
  .next (if s.bufCanRead .drx then (s.popped .drx).onDomeByte (s.front .drx) else s)

end Sys2Proof.Machine
end

