-- ==== Sys2Proof/Machine/Reset.lean ====
section
/-! DEFINITION. RESET (70_reset_and_hazards.md R190, 10_state.md R32). -/

namespace Sys2Proof.Machine

/-- RESET (R190): every piece of the block's state takes its reset value, whatever is buffered is gone and no storage
slot holds a value. The parameters stay (R26) and so do the model's own script and count of free values (log 16). -/
def execReset (s : State) : Host.Outcome State Fault Refusal :=
  .next { State.resetWith s.cfg with script := s.script, draws := s.draws }

end Sys2Proof.Machine
end

