-- ==== Sys2Proof/Machine/Flags.lean ====
section
/-! DEFINITION. The conditions a tick computes from its entry state (43_tick.md R121), the status byte
(45_status_and_outputs.md R150), the output pins (R152 to R155) and the conceptual state (10_state.md R24). -/

namespace Sys2Proof.Machine

/-- SENTINEL (R6): the counter's value while triggered (R12). -/
def sentinel : Byte := 0xFF#8

/-- `statusByte(hb, trig, act)` (R150). -/
def statusByte (hb : Byte) (trig act : Bool) : Byte :=
  if act then 0xFE#8 else if trig then 0xFF#8 else hb

/-- The four conceptual states of R24. -/
inductive Conceptual where
  | disabled
  | counting
  | triggeredClosing
  | triggeredIdle
  deriving DecidableEq, Repr

namespace State

/-- `counting` of R121. -/
def counting (s : State) : Bool := s.hb != 0#8 && s.hb != sentinel

/-- `dec` of R121: this tick decrements the heartbeat counter. -/
def dec (s : State) : Bool := s.counting && s.phase == s.cfg.ticksPerCount - 1

/-- `fire` of R121: this tick's decrement reaches 0. -/
def fire (s : State) : Bool := s.dec && s.hb == 1#8

/-- `complete` of R121. -/
def complete (s : State) : Bool := s.act && s.stepsA == 0#8 && s.stepsB == 0#8

/-- `autoarm` of R121. -/
def autoarm (s : State) : Bool := s.cfg.hasSiren && s.dec && s.hb - 1#8 == s.cfg.sirenPrewarnCounts

/-- The status byte of a state (R150). -/
def statusNow (s : State) : Byte := statusByte s.hb s.trig s.act

/-- `relay_o` (R152). -/
def relayO (s : State) : Bool := s.act

/-- `siren_o` (R153). -/
def sirenO (s : State) : Bool := s.sirenCount != 0#8

/-- `ind_mode_o`: 2 triggered, 1 armed, 0 disabled (R154). -/
def indModeO (s : State) : BitVec 2 := if s.trig then 2#2 else if s.hb != 0#8 then 1#2 else 0#2

/-- `ind_blink_o` (R155). -/
def indBlinkO (s : State) : Bool := s.blink

/-- The conceptual state (R24); none for the counter values 241..254, which are never held (R25 I6). -/
def conceptual (s : State) : Option Conceptual :=
  if s.hb = 0#8 then some .disabled
  else if s.hb.toNat ≤ 240 then some .counting
  else if s.hb = sentinel then some (if s.act then .triggeredClosing else .triggeredIdle)
  else none

end State

end Sys2Proof.Machine
end

