-- ==== Sys2Proof/Machine/Tick.lean ====
section
/-! DEFINITION. The tick operation (43_tick.md R120 to R135): every part reads the entry state and all writes take
place together (R121). The new values are those of the table of R131. -/

namespace Sys2Proof.Machine

namespace State

/-- `hb'` (R123, R124, R131). -/
def hbNext (s : State) : Byte := if s.fire then sentinel else if s.dec then s.hb - 1#8 else s.hb

/-- `trig'` (R124, R131). -/
def trigNext (s : State) : Bool := if s.fire then true else s.trig

/-- `act'` (R124, R125, R131). -/
def actNext (s : State) : Bool := if s.fire then true else if s.complete then false else s.act

/-- `stepsA'` (R124, R126, R131). -/
def stepsANext (s : State) : Byte :=
  if s.fire then s.cfg.maxShutterCloseSteps
  else if s.sel = some .stepA then s.stepsA - 1#8
  else s.stepsA

/-- `stepsB'` (R124, R126, R131). -/
def stepsBNext (s : State) : Byte :=
  if s.fire then s.cfg.maxShutterCloseSteps
  else if s.sel = some .stepB then s.stepsB - 1#8
  else s.stepsB

/-- `rrst'` (R124, R126, R131); without HAS_RELAY_RESET nothing is written (R17). -/
def rrstNext (s : State) : Byte :=
  if s.fire then s.cfg.relayResetSteps
  else if s.sel = some .relayReset then s.rrstCount - 1#8
  else s.rrstCount

/-- `siren'` (R128, R131); without HAS_SIREN nothing is written (R16). -/
def sirenNext (s : State) : Byte :=
  if s.autoarm then s.cfg.sirenArmSteps
  else if s.sirenCount ≠ 0#8 then s.sirenCount - 1#8
  else 0#8

/-- `phase'` (R122). -/
def phaseNext (s : State) : Nat := (s.phase + 1) % s.cfg.ticksPerCount

/-- The status byte that the tick reports, of the entry or of the exit state (R130). -/
def tickReport (s : State) : Byte :=
  match s.cfg.statusSample with
  | .entry => s.statusNow
  | .exit => statusByte s.hbNext s.trigNext s.actNext

/-- TICK's hold (R120, R135): HTX full, or a command due and DTX full. -/
def tickHeld (s : State) : Bool := s.bufFull .htx || (s.sel.isSome && s.bufFull .dtx)

/-- The controller's variables after a tick (R131). -/
def tickVars (s : State) : State :=
  ({ s with
      hb := s.hbNext
      trig := s.trigNext
      act := s.actNext
      stepsA := s.stepsANext
      stepsB := s.stepsBNext
      gate := s.sel.isSome
      blink := !s.blink
      phase := s.phaseNext }.setRrst s.rrstNext).setSiren s.sirenNext

/-- The command byte of the tick, if one is due (R126, R131). -/
def tickCommand (s : State) (sel : Option Command) : State :=
  match sel with
  | none => s
  | some c => s.push .dtx c.code

/-- The whole tick (R131). -/
def tickNext (s : State) : State :=
  ((s.tickVars.tickCommand s.sel).push .htx s.tickReport).clearTick

/-- One attempt at TICK: enabled while a tick is pending, held as a whole while a buffer it needs is full (R120, R135,
R196; log 3). -/
def tickRun (s : State) : State := if s.tickPend = true ∧ s.tickHeld = false then s.tickNext else s

end State

/-- TICK (R120). -/
def execTick (s : State) : Host.Outcome State Fault Refusal :=
  .next s.tickRun

end Sys2Proof.Machine
end

