-- ==== Sys2Proof/Machine/Sent.lean ====
section
/-! DEFINITION. The messages that the block sends, as operations: the dome commands C.STEPA, C.STEPB, C.RESET
(43_tick.md R126), the status reports S.* (R130), and STATUS (45_status_and_outputs.md R150). A message is sent by TICK
and by nothing else (R133, R151, R156), so the operation is the TICK that sends it (log 6, 7): no variable of the
controller and no transmit buffer is written outside a TICK (10_state.md R15, R17, R18). -/

namespace Sys2Proof.Machine

namespace State

/-- The TICK that sends the command `c` (R126); where the tick would send another command or none, there is no such
tick. -/
def tickSending (s : State) (c : Command) : State := if s.sel = some c then s.tickRun else s

/-- The TICK that reports the status byte `b` (R130); where the tick would report another byte, there is no such
tick. -/
def tickReporting (s : State) (b : Byte) : State := if s.tickReport = b then s.tickRun else s

end State

/-- C.STEPA: the tick that sends `'A'` (R63, R126). -/
def execCStepA (s : State) : Host.Outcome State Fault Refusal :=
  .next (s.tickSending .stepA)

/-- C.STEPB: the tick that sends `'B'` (R63, R126). -/
def execCStepB (s : State) : Host.Outcome State Fault Refusal :=
  .next (s.tickSending .stepB)

/-- C.RESET: the tick that sends `'R'` (R63, R126). -/
def execCReset (s : State) : Host.Outcome State Fault Refusal :=
  .next (s.tickSending .relayReset)

/-- S.DISABLED: the tick that reports 0 (R62, R130). -/
def execSDisabled (s : State) : Host.Outcome State Fault Refusal :=
  .next (s.tickReporting 0x00#8)

/-- S.COUNT v: the tick that reports the counter `v` (R62, R65, R130). -/
def execSCount (v : Byte) (s : State) : Host.Outcome State Fault Refusal :=
  .next (s.tickReporting v)

/-- S.CLOSING: the tick that reports 254 (R62, R130). -/
def execSClosing (s : State) : Host.Outcome State Fault Refusal :=
  .next (s.tickReporting 0xFE#8)

/-- S.TRIGGERED: the tick that reports 255 (R62, R130). -/
def execSTriggered (s : State) : Host.Outcome State Fault Refusal :=
  .next (s.tickReporting 0xFF#8)

/-- STATUS, `statusByte()` (R150): returns the status byte; writes nothing of the block. -/
def execStatus (s : State) : Host.Outcome State Fault Refusal :=
  .next { s with ret := some (.byte s.statusNow) }

end Sys2Proof.Machine
end

