-- ==== Sys2Proof/Machine/Timer.lean ====
section
/-! DEFINITION. The periodic timer: CLK and its untimed form PULSE (41_timer.md R100 to R106). -/

namespace Sys2Proof.Machine

/-- The cycle that finds the terminal count: `tcnt` returns to 0, the pulse stands on `tick_o` and requests the tick
interrupt (R100, R101, R102). -/
def State.terminalCount (s : State) : State := { s.raiseTick with tcnt := 0, tickO := true }

/-- CLK (R100): one rising edge of `clk` while `rst = 0`. -/
def execClk (s : State) : Host.Outcome State Fault Refusal :=
  .next (if s.tcnt = s.cfg.tickDiv - 1 then s.terminalCount else { s with tcnt := s.tcnt + 1, tickO := false })

/-- PULSE (R105, R71): the tick pulse standing for `TICK_DIV` clock edges; it requests the tick interrupt and leaves
`tcnt` where those edges bring it back to (log 10). -/
def execPulse (s : State) : Host.Outcome State Fault Refusal :=
  .next s.raiseTick

end Sys2Proof.Machine
end

