-- ==== Sys2Proof/Machine/Dispatch.lean ====
section
/-! DEFINITION. The meaning of each operation, one arm per constructor of `Instr`. -/

namespace Sys2Proof.Machine

/-- One atomic operation of the block (20_memory.md R49). -/
def exec (i : Instr) (s : State) : Host.Outcome State Fault Refusal :=
  match i with
  | .hDisable => Sys2Proof.Machine.execHDisable s
  | .hArm v => Sys2Proof.Machine.execHArm v s
  | .hRsv v => Sys2Proof.Machine.execHRsv v s
  | .hSiren => Sys2Proof.Machine.execHSiren s
  | .dClosedA => Sys2Proof.Machine.execDClosedA s
  | .dClosedB => Sys2Proof.Machine.execDClosedB s
  | .dClosedBoth => Sys2Proof.Machine.execDClosedBoth s
  | .dOther c => Sys2Proof.Machine.execDOther c s
  | .cStepA => Sys2Proof.Machine.execCStepA s
  | .cStepB => Sys2Proof.Machine.execCStepB s
  | .cReset => Sys2Proof.Machine.execCReset s
  | .sDisabled => Sys2Proof.Machine.execSDisabled s
  | .sCount v => Sys2Proof.Machine.execSCount v s
  | .sClosing => Sys2Proof.Machine.execSClosing s
  | .sTriggered => Sys2Proof.Machine.execSTriggered s
  | .clk => Sys2Proof.Machine.execClk s
  | .pulse => Sys2Proof.Machine.execPulse s
  | .tick => Sys2Proof.Machine.execTick s
  | .rxArrive f b => Sys2Proof.Machine.execRxArrive f b s
  | .canRead f => Sys2Proof.Machine.execCanRead f s
  | .read f => Sys2Proof.Machine.execRead f s
  | .write f b => Sys2Proof.Machine.execWrite f b s
  | .txDrain f => Sys2Proof.Machine.execTxDrain f s
  | .hostPoll => Sys2Proof.Machine.execHostPoll s
  | .domePoll => Sys2Proof.Machine.execDomePoll s
  | .status => Sys2Proof.Machine.execStatus s
  | .reset => Sys2Proof.Machine.execReset s

end Sys2Proof.Machine
end

