-- ==== Sys2Proof/Machine/Fetch.lean ====
section
/-! DEFINITION. Where the next operation comes from: the stimulus script (30_encoding.md R71), or, where it is empty,
a free choice among the agents' operations (60_exceptions.md R176, log 2). -/

namespace Sys2Proof.Machine

/-- What a fetch answers. -/
inductive Fetched where
  /-- the operation and the state in which it is performed -/
  | op (i : Instr) (s : State)
  /-- the script line has no operation -/
  | rejected (e : DecodeError)
  deriving DecidableEq, Repr

namespace State

/-- Between two operations the one-cycle outputs fall and nothing is being returned (R31, R88, R101; log 4, 5). -/
def quiet (s : State) : State := { s with htxOut := none, dtxOut := none, tickO := false, ret := none }

/-- The next line of the script, or the environment's choice. -/
def nextStimulus (s : State) : Stimulus :=
  match s.script with
  | st :: _ => st
  | [] => .event (Config.environment s.draws).event

/-- The state once the next line is taken: the script is one line shorter, or one free value has been drawn. -/
def afterFetch (s : State) : State :=
  match s.script with
  | _ :: rest => { s.quiet with script := rest }
  | [] => { s.quiet with draws := s.draws + 1 }

/-- The next operation and the state in which it is performed. -/
def fetch (s : State) : Fetched :=
  match decode s.cfg s.nextStimulus with
  | .instr i => .op i s.afterFetch
  | .rejected e => .rejected e

/-- `s` with a line put before its script. -/
def withStimulus (s : State) (st : Stimulus) : State := { s with script := st :: s.script }

/-- `s` with a bare table word as the next line of its script, built with the variant that the word's row needs: the
decoding of 0xFF and of `'R'` depends on it (R73, log 11). -/
def withTableWord (s : State) (w : Nat) : State :=
  { s.withStimulus (tableStimulus w) with cfg := s.cfg.meetingCondition (BitVec.ofNat 8 w) }

end State

end Sys2Proof.Machine
end

