-- ==== Sys2Proof/Machine/Step.lean ====
section
/-! DEFINITION. One step of the machine: the next operation is taken and performed (20_memory.md R49,
60_exceptions.md R176). -/

namespace Sys2Proof.Machine

/-- One step: next state, or a refusal where the script line has no operation. There is no fault (R170). -/
def step (s : State) : Host.Outcome State Fault Refusal :=
  match s.fetch with
  | .op i s' => exec i s'
  | .rejected e => .refused (.undecodable e)

/-- `s` with a bare table word put where the next step takes its operation: at the head of the script (log 2, 11). -/
def State.withFetchWord (s : State) (_nbits w : Nat) : State := s.withTableWord w

end Sys2Proof.Machine
end

