-- ==== Sys2Proof/Machine/Cycle.lean ====
section
/-! DEFINITION. Which operations are enabled (40_bytechannel.md R82 to R88, 43_tick.md R120, 46_mainloop.md R160, R161),
and one clock cycle of a cycle-accurate implementation as the sequence of operations that 60_exceptions.md R176 gives
it (R89, 10_state.md R31). -/

namespace Sys2Proof.Machine

/-- The input signals of R31 in one clock cycle; a valid and data pair is one option. -/
structure Inputs where
  /-- `rst` -/
  rst : Bool
  /-- `hrx_valid`, `hrx_data` -/
  hrx : Option Byte
  /-- `drx_valid`, `drx_data` -/
  drx : Option Byte
  /-- `htx_ready` -/
  htxReady : Bool
  /-- `dtx_ready` -/
  dtxReady : Bool
  deriving DecidableEq, Repr

namespace State

/-- Whether an agent's operation has a step (log 3). An arrival is always enabled: the transport never waits (R82). -/
def enabled (s : State) : AgentOp → Bool
  | .clk => true
  | .pulse => true
  | .tick => s.tickPend && !s.tickHeld
  | .hostPoll => s.bufCanRead .hrx
  | .domePoll => s.bufCanRead .drx
  | .rxArrive _ _ => true
  | .txDrain f => s.bufCanRead f.id
  | .reset => true

/-- An arrival presented in this cycle (R82, R173). -/
def arrival (f : RxBuf) : Option Byte → List AgentOp
  | none => []
  | some b => [.rxArrive f b]

/-- A receive port's operation, evaluated on the cursors at the start of the cycle: at a full buffer the byte is lost
(R82, R89). -/
def portArrive (s : State) (f : RxBuf) (b : Option Byte) : List AgentOp :=
  if s.bufFull f.id then [] else arrival f b

/-- A transmit port's operation, evaluated on the cursors at the start of the cycle (R88, R89). -/
def portDrain (s : State) (f : TxBuf) (ready : Bool) : List AgentOp :=
  if ready && s.enabled (.txDrain f) then [.txDrain f] else []

/-- At most one controller operation: TICK before HOST_POLL before DOME_POLL (R176). -/
def controllerOp (s : State) : List AgentOp :=
  if s.enabled .tick then [.tick]
  else if s.enabled .hostPoll then [.hostPoll]
  else if s.enabled .domePoll then [.domePoll]
  else []

/-- The operations of one clock cycle (R176). While `rst = 1` there is no other operation and arrivals are lost
(R190). Each operation is chosen on the state at the start of the cycle, so their order does not matter (R89), but
for the clock edge: it stands last, so that the TICK of a pulse comes in the next cycle (R103, log 12). -/
def cycleOps (s : State) (inp : Inputs) : List AgentOp :=
  if inp.rst then [.reset]
  else
    s.portArrive .hrx inp.hrx ++ s.portArrive .drx inp.drx
      ++ s.portDrain .htx inp.htxReady ++ s.portDrain .dtx inp.dtxReady
      ++ s.controllerOp ++ [.clk]

/-- `s` with the operations of one clock cycle put before its script. -/
def withCycle (s : State) (inp : Inputs) : State :=
  { s with script := (s.cycleOps inp).map (fun op => .event op.event) ++ s.script }

end State

end Sys2Proof.Machine
end

