-- ==== Sys2Proof/Machine/Script.lean ====
section
/-! DEFINITION. The stimulus scripts of 30_encoding.md R71 and R72: the primitive lines, the macros, and a run of
operations. -/

namespace Sys2Proof.Machine

/-- `HRX b`. -/
def lineHrx (b : Byte) : Instr := .rxArrive .hrx b

/-- `DRX b`. -/
def lineDrx (b : Byte) : Instr := .rxArrive .drx b

/-- `H b`: the host sends a byte and the controller processes it at once (R72). -/
def macroH (b : Byte) : List Instr := [lineHrx b, .hostPoll]

/-- `D b`: the dome sends a byte and it is processed at once (R72). -/
def macroD (b : Byte) : List Instr := [lineDrx b, .domePoll]

/-- `T`: one whole tick (R72). TX_DRAIN of an empty DTX does nothing, which is what `DDRAIN?` says. -/
def macroT : List Instr := [.pulse, .tick, .txDrain .htx, .txDrain .dtx]

/-- `T*n` (R72). -/
def macroTs : Nat → List Instr
  | 0 => []
  | n + 1 => macroT ++ macroTs n

/-- A sequence of operations, performed one after the other (R49); it stops at the first that has no next state. -/
def execAll : List Instr → State → Host.Outcome State Fault Refusal
  | [], s => .next s
  | i :: rest, s =>
    match exec i s with
    | .next t => execAll rest t
    | .fault r => .fault r
    | .refused r => .refused r

/-- The bytes that reach the dome transport in the next `n` steps, in order (R88, R206). -/
def domeTrace : Nat → State → List Byte
  | 0, _ => []
  | n + 1, s =>
    match step s with
    | .next t => t.dtxOut.toList ++ domeTrace n t
    | .fault _ => []
    | .refused _ => []

/-- The bytes that reach the host transport in the next `n` steps, in order (R88, R206). -/
def hostTrace : Nat → State → List Byte
  | 0, _ => []
  | n + 1, s =>
    match step s with
    | .next t => t.htxOut.toList ++ hostTrace n t
    | .fault _ => []
    | .refused _ => []

end Sys2Proof.Machine
end

