-- ==== Sys2Proof/Machine/TickSequence.lean ====
section
/-! DEFINITION. The tick as the sequential program of 43_tick.md R132: statements performed in order, each seeing the
writes of those before. TICK itself is `tickNext` (R131); that both give the same state is a statement. -/

namespace Sys2Proof.Machine

namespace State

/-- Steps 1 and 10: the report, at the tick's start or end as STATUS_SAMPLE says. -/
def seqReport (at_ : StatusSample) (s : State) : State :=
  if s.cfg.statusSample = at_ then s.push .htx s.statusNow else s

/-- Step 2: the rate-limit gate is cleared. -/
def seqClearGate (s : State) : State := { s with gate := false }

/-- Step 4: at most one command, the relay reset before shutter A before shutter B. -/
def seqSend (s : State) : State :=
  if s.act = true ∧ s.gate = false then
    if s.rrstCount ≠ 0#8 then s.sendCommand .relayReset
    else if s.stepsA ≠ 0#8 then s.sendCommand .stepA
    else if s.stepsB ≠ 0#8 then s.sendCommand .stepB
    else s
  else s

/-- Step 5, with the completion remembered by step 3. -/
def seqComplete (complete : Bool) (s : State) : State := if complete then { s with act := false } else s

/-- Step 6: the siren countdown. -/
def seqSiren (s : State) : State := if s.sirenCount ≠ 0#8 then s.setSiren (s.sirenCount - 1#8) else s

/-- Step 7, the innermost part: the trigger. -/
def seqTrigger (s : State) : State :=
  if s.hb = 0#8 then
    { s with
      hb := sentinel
      trig := true
      act := true
      stepsA := s.cfg.maxShutterCloseSteps
      stepsB := s.cfg.maxShutterCloseSteps }.setRrst s.cfg.relayResetSteps
  else s

/-- Step 7, the middle part: the automatic arming of the siren. -/
def seqAutoarm (s : State) : State :=
  if s.cfg.hasSiren = true ∧ s.hb = s.cfg.sirenPrewarnCounts then s.setSiren s.cfg.sirenArmSteps else s

/-- Step 7: the countdown. -/
def seqCountdown (s : State) : State :=
  if s.hb ≠ 0#8 ∧ s.hb ≠ sentinel ∧ s.phase = s.cfg.ticksPerCount - 1 then
    ({ s with hb := s.hb - 1#8 }.seqAutoarm).seqTrigger
  else s

/-- Step 8: the cadence prescaler. -/
def seqPhase (s : State) : State := { s with phase := (s.phase + 1) % s.cfg.ticksPerCount }

/-- Step 9: the blink indicator. -/
def seqBlink (s : State) : State := { s with blink := !s.blink }

/-- Steps 1 to 11 of R132, for a tick that is not held. -/
def tickSequence (s : State) : State :=
  let afterSend := (s.seqReport .entry).seqClearGate.seqSend
  let counted := (afterSend.seqComplete s.complete).seqSiren.seqCountdown
  (counted.seqPhase.seqBlink.seqReport .exit).clearTick

end State

end Sys2Proof.Machine
end

