-- ==== Sys2Proof/Safety.lean ====
section
/-! DEFINITION. What the statements speak of: which operations are a TICK, a byte pushed into a ring buffer or popped
from it and nothing else changed, the bytes a buffer holds, whether the last TICK sent a command, and the invariants of
10_state.md R25 and 20_memory.md R46. -/

namespace Sys2Proof

/-- Whether an operation, where it is performed, is a TICK: TICK itself and the messages that the block sends, which are
sent by a TICK only (R133; log 6, 7). -/
def Instr.ofTick : Instr → Bool
  | .hDisable => false
  | .hArm _ => false
  | .hRsv _ => false
  | .hSiren => false
  | .dClosedA => false
  | .dClosedB => false
  | .dClosedBoth => false
  | .dOther _ => false
  | .cStepA => true
  | .cStepB => true
  | .cReset => true
  | .sDisabled => true
  | .sCount _ => true
  | .sClosing => true
  | .sTriggered => true
  | .clk => false
  | .pulse => false
  | .tick => true
  | .rxArrive _ _ => false
  | .canRead _ => false
  | .read _ => false
  | .write _ _ => false
  | .txDrain _ => false
  | .hostPoll => false
  | .domePoll => false
  | .status => false
  | .reset => false

end Sys2Proof

namespace Sys2Proof.Machine

/-- `r'` is the buffer `r` of `n` slots with the byte `b` pushed (R80): `b` is read at the old write cursor, every
other slot reads as before, the write cursor has advanced modulo `n`, the read cursor stays. -/
def RingBuf.Pushed (n : Nat) (r r' : RingBuf) (b : Byte) : Prop :=
  Memory.read r'.mem r.wr = some b
    ∧ (∀ i, i ≠ r.wr → Memory.read r'.mem i = Memory.read r.mem i)
    ∧ r'.wr = (r.wr + 1) % n ∧ r'.rd = r.rd

/-- `r'` is the buffer `r` of `n` slots with one byte popped (R80): the read cursor has advanced modulo `n`, the storage
and the write cursor stay. -/
def RingBuf.Popped (n : Nat) (r r' : RingBuf) : Prop :=
  r'.mem = r.mem ∧ r'.wr = r.wr ∧ r'.rd = (r.rd + 1) % n

/-- `t` is `s` with the byte `b` pushed into the ring buffer `f`, and nothing else changed. -/
def State.PushedOnly (s t : State) (f : BufId) (b : Byte) : Prop :=
  RingBuf.Pushed (s.cfg.size f) (s.buf f) (t.buf f) b ∧ t = s.setBuf f (t.buf f)

/-- The bytes that a ring buffer holds, oldest first: those between the read and the write cursor (R81, R57). A slot
that nothing has written holds none. -/
def State.contents (s : State) (f : BufId) : List (Option Byte) :=
  (List.range (s.count f)).map fun j => Memory.read (s.buf f).mem (((s.buf f).rd + j) % s.cfg.size f)

/-- Which conceptual state may follow which (46_mainloop.md R165, last paragraph and table): no way from a triggered
state to counting, from triggered-idle to triggered-closing, from disabled to a triggered state, or from counting to
triggered-idle. -/
def Conceptual.mayFollow : Conceptual → Conceptual → Bool
  | .disabled, .disabled => true
  | .disabled, .counting => true
  | .disabled, .triggeredClosing => false
  | .disabled, .triggeredIdle => false
  | .counting, .disabled => true
  | .counting, .counting => true
  | .counting, .triggeredClosing => true
  | .counting, .triggeredIdle => false
  | .triggeredClosing, .disabled => true
  | .triggeredClosing, .counting => false
  | .triggeredClosing, .triggeredClosing => true
  | .triggeredClosing, .triggeredIdle => true
  | .triggeredIdle, .disabled => true
  | .triggeredIdle, .counting => false
  | .triggeredIdle, .triggeredClosing => false
  | .triggeredIdle, .triggeredIdle => true

/-- Whether the most recent TICK of a sequence of operations sent a dome-link command (R25 I9); `sent` is the answer
before it. A TICK has been performed where a pending tick is gone and the operation was no RESET (R21); it has sent a
command where the write cursor of DTX has moved. After a RESET there has been none. -/
def lastTickSent : List Instr → State → Bool → Bool
  | [], _, sent => sent
  | i :: rest, s, sent =>
    match exec i s with
    | .next t =>
      lastTickSent rest t
        (if i = .reset then false else if s.tickPend && !t.tickPend then t.dtx.wr != s.dtx.wr else sent)
    | .fault _ => sent
    | .refused _ => sent

/-- R23, R25 I10, R41, R46: the cursors are slots, the storage is in canonical form and lies in the buffer, and every
slot between the read and the write cursor has been written since reset. -/
structure RingBuf.Inv (n : Nat) (r : RingBuf) : Prop where
  rd_lt : r.rd < n
  wr_lt : r.wr < n
  mem_wf : Memory.wf r.mem
  mem_in : ∀ c ∈ r.mem, c.1 < n
  live_written : ∀ j, j < (r.wr + (n - r.rd)) % n → (Memory.read r.mem ((r.rd + j) % n)).isSome = true

/-- The invariants of R25 that speak of one state, the ranges of R20 and R22, the hard-wired counters of R16 and R17,
and the ring buffers' invariant. -/
structure State.Inv (s : State) : Prop where
  cfg_wf : s.cfg.wf = true
  /-- I1 -/
  act_trig : s.act = true → s.trig = true
  /-- I5 -/
  trig_iff : s.trig = true ↔ s.hb = sentinel
  /-- I6 -/
  hb_range : s.hb.toNat ≤ 240 ∨ s.hb = sentinel
  /-- I7 -/
  idle_steps : s.trig = true → s.act = false → s.stepsA = 0 ∧ s.stepsB = 0
  /-- I8 -/
  stepsA_le : s.stepsA.toNat ≤ s.cfg.maxShutterCloseSteps.toNat
  /-- I8 -/
  stepsB_le : s.stepsB.toNat ≤ s.cfg.maxShutterCloseSteps.toNat
  /-- I8, R17 -/
  rrst_le : s.rrst.toNat ≤ if s.cfg.hasRelayReset then s.cfg.relayResetSteps.toNat else 0
  /-- I8, R16 -/
  siren_le : s.siren.toNat ≤ if s.cfg.hasSiren then s.cfg.sirenArmSteps.toNat else 0
  /-- R20 -/
  phase_lt : s.phase < s.cfg.ticksPerCount
  /-- R22 -/
  tcnt_lt : s.tcnt < s.cfg.tickDiv
  /-- R23, I10, R46 -/
  buf_inv : ∀ f : BufId, RingBuf.Inv (s.cfg.size f) (s.buf f)

end Sys2Proof.Machine
end

