-- ==== Sys2Proof/Certificates/Slice0/Obligations.lean ====
section
/-! DEFINITION. The statements about the model, from the numbered rules of the spec. Each docstring names the rules. -/

open Sys2Proof Sys2Proof.Machine

/-! ### Encodings -/

/-- R61 to R64, R69: the decoder reads from the encoding of a well-formed operation that operation. -/
def Obligations.DecodeOfEncodeIsTheOperation : Prop :=
  ∀ (c : Config) (i : Instr), i.wellFormed c = true → decode c (encode i) = .instr i

/-- R60, R61 to R64, R69: each script line has one meaning: what it decodes to is well-formed and encodes to that line. -/
def Obligations.EncodeOfDecodeIsTheLine : Prop :=
  ∀ (c : Config) (st : Stimulus) (i : Instr),
    decode c st = .instr i → i.wellFormed c = true ∧ encode i = st

/-- R61, R114: all 256 values of a host byte. -/
def Obligations.HostBytesDecodeByTheirRanges : Prop :=
  ∀ (c : Config) (v : Byte),
    (v = 0#8 → decode c (.message .hostToDevice v) = .instr .hDisable)
      ∧ (1 ≤ v.toNat → v.toNat ≤ 240 → decode c (.message .hostToDevice v) = .instr (.hArm v))
      ∧ (v = 255#8 → c.hasSiren = true → decode c (.message .hostToDevice v) = .instr .hSiren)
      ∧ (241 ≤ v.toNat → v.toNat ≤ 254 ∨ c.hasSiren = false →
          decode c (.message .hostToDevice v) = .instr (.hRsv v))

/-- R64, R66: all 256 values of a dome byte. -/
def Obligations.DomeBytesDecodeByTheirCharacters : Prop :=
  ∀ (c : Config) (b : Byte),
    (b = 0x58#8 → decode c (.message .domeToDevice b) = .instr .dClosedA)
      ∧ (b = 0x59#8 → decode c (.message .domeToDevice b) = .instr .dClosedB)
      ∧ (b = 0x30#8 → decode c (.message .domeToDevice b) = .instr .dClosedBoth)
      ∧ (b ≠ 0x58#8 → b ≠ 0x59#8 → b ≠ 0x30#8 → decode c (.message .domeToDevice b) = .instr (.dOther b))

/-- R62, R63: the bytes of the outgoing streams; a byte that is never sent has no operation, and `step` refuses a script
line that holds one (the refusal is the model's, log 17). -/
def Obligations.NeverSentBytesAreRefused : Prop :=
  ∀ (s : State) (rest : List Stimulus) (st : Stream) (b : Byte),
    (st = .deviceToHost ∧ 241 ≤ b.toNat ∧ b.toNat ≤ 253)
      ∨ (st = .deviceToDome ∧ b ≠ 0x41#8 ∧ b ≠ 0x42#8 ∧ (b ≠ 0x52#8 ∨ s.cfg.hasRelayReset = false)) →
    s.script = .message st b :: rest → step s = .refused (.undecodable (.neverSent st b))

/-- R61 to R64: a few bytes, written out, decode to the operations they stand for. -/
def Obligations.SampleBytesDecode : Prop :=
  ∀ c : Config,
    decode c (.message .hostToDevice 0b00000000#8) = .instr .hDisable
      ∧ decode c (.message .hostToDevice 0b01111000#8) = .instr (.hArm 120#8)
      ∧ decode c (.message .hostToDevice 0b11110101#8) = .instr (.hRsv 245#8)
      ∧ decode c (.message .domeToDevice 0b01011000#8) = .instr .dClosedA
      ∧ decode c (.message .domeToDevice 0b00110000#8) = .instr .dClosedBoth
      ∧ decode c (.message .deviceToDome 0b01000001#8) = .instr .cStepA
      ∧ decode c (.message .deviceToHost 0b11111110#8) = .instr .sClosing

/-- R73: an operation is well-formed exactly when its encoding belongs to its row of the opcode table, by the row's
mask and match blocks, complement list and condition. -/
def Obligations.WellFormedIsTableMembership : Prop :=
  ∀ (c : Config) (i : Instr), i.wellFormed c = (i.tableRow c).accepts (encode i)

/-! ### The step -/

/-- R49, R71: where the script's next line decodes to an operation, a step is that operation, performed with the line
taken off the script and the one-cycle outputs and the returned value cleared (log 2, 4, 5). -/
def Obligations.StepPerformsTheDecodedOperation : Prop :=
  ∀ (s : State) (st : Stimulus) (rest : List Stimulus) (i : Instr),
    s.script = st :: rest → decode s.cfg st = .instr i →
      step s = exec i { s with script := rest, htxOut := none, dtxOut := none, tickO := false, ret := none }

/-- R176, log 2 (the model's choice): with no script a step is some operation of some agent. -/
def Obligations.StepWithoutScriptIsAnAgentsOperation : Prop :=
  ∀ s : State, s.script = [] →
    ∃ op : AgentOp,
      step s = exec op.event.instr
        { s with draws := s.draws + 1, htxOut := none, dtxOut := none, tickO := false, ret := none }

/-- R170: no operation raises an exception, in no state: each answers a next state. -/
def Obligations.EveryOperationHasANextState : Prop :=
  ∀ (i : Instr) (s : State), ∃ t, exec i s = .next t

/-- R26: no operation writes a parameter. R104: of all operations only CLK and RESET write the timer's count. -/
def Obligations.ParametersAndTimerAreLeftAlone : Prop :=
  ∀ (i : Instr) (s t : State), exec i s = .next t →
    t.cfg = s.cfg ∧ (i ≠ .clk → i ≠ .reset → t.tcnt = s.tcnt)

/-- R25 (I1, I4 to I8, I10), R16, R17, R20, R22, R23, R46: every step keeps the invariants. -/
def Obligations.EveryStepKeepsTheInvariant : Prop :=
  ∀ s t : State, s.Inv → step s = .next t → t.Inv

/-- R25, R32: the invariants hold after reset, for every legal choice of the parameters. -/
def Obligations.ResetSatisfiesTheInvariant : Prop :=
  (∀ c : Config, c.wf = true → (State.resetWith c).Inv) ∧ State.reset.Inv

/-- R13, R25 I2: a step that clears the triggered flag performs H.DISABLE, a HOST_POLL of the byte 0, or RESET. -/
def Obligations.OnlyDisableClearsTheTrigger : Prop :=
  ∀ s t : State, step s = .next t → s.trig = true → t.trig = false →
    ∃ (i : Instr) (u : State), s.fetch = .op i u
      ∧ (i = .hDisable ∨ (i = .hostPoll ∧ u.bufCanRead .hrx = true ∧ u.front .hrx = 0#8) ∨ i = .reset)

/-- R165: the transitions between the conceptual states that a step can make. -/
def Obligations.StepFollowsTheTransitionTable : Prop :=
  ∀ s t : State, s.Inv → step s = .next t →
    ∃ a b : Conceptual, s.conceptual = some a ∧ t.conceptual = some b ∧ a.mayFollow b = true

/-! ### Host commands -/

/-- R110: H.DISABLE, in every state. Relay and status byte follow at once. -/
def Obligations.DisableClearsCounterTriggerAndActive : Prop :=
  ∀ s : State, ∃ t, exec .hDisable s = .next t
    ∧ t = { s with hb := 0#8, trig := false, act := false } ∧ t.relayO = false ∧ t.statusNow = 0#8

/-- R111: H.ARM v sets the counter, and is ignored while triggered. -/
def Obligations.ArmSetsTheCounterUnlessTriggered : Prop :=
  ∀ (s : State) (v : Byte),
    (s.trig = false → exec (.hArm v) s = .next { s with hb := v }) ∧ (s.trig = true → exec (.hArm v) s = .next s)

/-- R112: H.RSV changes no controller variable. -/
def Obligations.ReservedCommandChangesNothing : Prop :=
  ∀ (s : State) (v : Byte), exec (.hRsv v) s = .next s

/-- R113, R16: H.SIREN loads the siren counter and nothing else; without a siren the counter is hard-wired to 0. -/
def Obligations.SirenCommandLoadsTheSiren : Prop :=
  ∀ s : State,
    (s.cfg.hasSiren = true →
      ∃ t, exec .hSiren s = .next t ∧ t = { s with siren := s.cfg.sirenArmSteps }
        ∧ (s.cfg.sirenArmSteps ≠ 0#8 → t.sirenO = true))
    ∧ (s.cfg.hasSiren = false → exec .hSiren s = .next s ∧ s.sirenO = false)

/-! ### Dome responses -/

/-- R140 to R143: each response zeroes its step counters and nothing else. -/
def Obligations.DomeResponsesZeroTheirCounters : Prop :=
  ∀ (s : State) (c : Byte),
    exec .dClosedA s = .next { s with stepsA := 0#8 }
      ∧ exec .dClosedB s = .next { s with stepsB := 0#8 }
      ∧ exec .dClosedBoth s = .next { s with stepsA := 0#8, stepsB := 0#8 }
      ∧ exec (.dOther c) s = .next s

/-! ### The byte channel -/

/-- R82, R80: an arrival is pushed; at a full buffer it is discarded. -/
def Obligations.ArrivalIsPushedOrDiscarded : Prop :=
  ∀ (s : State) (f : RxBuf) (b : Byte),
    (s.bufFull f.id = false → ∃ t, exec (.rxArrive f b) s = .next t ∧ s.PushedOnly t f.id b)
      ∧ (s.bufFull f.id = true → exec (.rxArrive f b) s = .next s)

/-- R83: CANREAD returns whether the cursors differ and writes nothing of the block. That the returned value is held in
`ret` is the model's choice (log 4). -/
def Obligations.CanReadReturnsWhetherCursorsDiffer : Prop :=
  ∀ (s : State) (f : RxBuf), ∃ r : Bool,
    exec (.canRead f) s = .next { s with ret := some (.flag r) }
      ∧ (r = true ↔ (s.buf f.id).rd ≠ (s.buf f.id).wr)

/-- R84, R80: READ returns the byte at the read cursor and advances it; on an empty buffer it holds. Where nothing has
written the slot the byte is free (U6, log 8). -/
def Obligations.ReadReturnsTheOldestByteOrHolds : Prop :=
  ∀ (s : State) (f : RxBuf),
    (∀ b, s.bufCanRead f.id = true → Memory.read (s.buf f.id).mem (s.buf f.id).rd = some b →
      exec (.read f) s = .next
        { s.setBuf f.id { s.buf f.id with rd := ((s.buf f.id).rd + 1) % s.cfg.size f.id } with
          ret := some (.byte b) })
    ∧ (s.bufCanRead f.id = true → Memory.read (s.buf f.id).mem (s.buf f.id).rd = none →
      ∃ b, exec (.read f) s = .next
        { s.setBuf f.id { s.buf f.id with rd := ((s.buf f.id).rd + 1) % s.cfg.size f.id } with
          ret := some (.byte b), draws := s.draws + 1 })
    ∧ (s.bufCanRead f.id = false → exec (.read f) s = .next s)

/-- R85, R80: WRITE pushes; on a full buffer it holds, and neither overwrites nor drops a byte. -/
def Obligations.WriteIsPushedOrHolds : Prop :=
  ∀ (s : State) (f : TxBuf) (b : Byte),
    (s.bufFull f.id = false → ∃ t, exec (.write f b) s = .next t ∧ s.PushedOnly t f.id b)
      ∧ (s.bufFull f.id = true → exec (.write f b) s = .next s)

/-- R88, R80: TX_DRAIN pops the oldest byte and hands it to the buffer's transport; on an empty buffer nothing
happens. Where nothing has written the slot the byte is free (U6, log 8). -/
def Obligations.DrainHandsOverTheOldestByte : Prop :=
  ∀ (s : State) (f : TxBuf),
    (∀ b, s.bufCanRead f.id = true → Memory.read (s.buf f.id).mem (s.buf f.id).rd = some b →
      exec (.txDrain f) s = .next
        { s.setBuf f.id { s.buf f.id with rd := ((s.buf f.id).rd + 1) % s.cfg.size f.id } with
          htxOut := if f = .htx then some b else s.htxOut
          dtxOut := if f = .dtx then some b else s.dtxOut })
    ∧ (s.bufCanRead f.id = true → Memory.read (s.buf f.id).mem (s.buf f.id).rd = none →
      ∃ b, exec (.txDrain f) s = .next
        { s.setBuf f.id { s.buf f.id with rd := ((s.buf f.id).rd + 1) % s.cfg.size f.id } with
          htxOut := if f = .htx then some b else s.htxOut
          dtxOut := if f = .dtx then some b else s.dtxOut
          draws := s.draws + 1 })
    ∧ (s.bufCanRead f.id = false → exec (.txDrain f) s = .next s)

/-- R57, R81: a ring buffer is first-in first-out and holds at most N-1 bytes. -/
def Obligations.BuffersAreFirstInFirstOut : Prop :=
  ∀ (s : State) (f : BufId) (b : Byte), RingBuf.Inv (s.cfg.size f) (s.buf f) →
    (s.contents f).length ≤ s.cfg.size f - 1
      ∧ (s.bufFull f = false → (s.push f b).contents f = s.contents f ++ [some b])
      ∧ (s.bufCanRead f = true → s.contents f = some (s.front f) :: (s.popped f).contents f)

/-- R50, R89: a producer's and a consumer's operation on one buffer commute where both are enabled. -/
def Obligations.ProducerAndConsumerCommute : Prop :=
  ∀ (s : State) (b : Byte), s.Inv →
    (∀ f : RxBuf, s.bufCanRead f.id = true → s.bufFull f.id = false →
      execAll [.rxArrive f b, .read f] s = execAll [.read f, .rxArrive f b] s)
    ∧ (∀ f : TxBuf, s.bufCanRead f.id = true → s.bufFull f.id = false →
      execAll [.write f b, .txDrain f] s = execAll [.txDrain f, .write f b] s)

/-- R50, R178: each cursor has one owner among the agents' operations (RESET apart). -/
def Obligations.EachCursorHasOneWriter : Prop :=
  ∀ (op : AgentOp) (s t : State), exec op.event.instr s = .next t → op ≠ .reset →
    (t.hrx.wr ≠ s.hrx.wr → ∃ b, op = .rxArrive .hrx b) ∧ (t.hrx.rd ≠ s.hrx.rd → op = .hostPoll)
      ∧ (t.drx.wr ≠ s.drx.wr → ∃ b, op = .rxArrive .drx b) ∧ (t.drx.rd ≠ s.drx.rd → op = .domePoll)
      ∧ (t.htx.wr ≠ s.htx.wr → op = .tick) ∧ (t.htx.rd ≠ s.htx.rd → op = .txDrain .htx)
      ∧ (t.dtx.wr ≠ s.dtx.wr → op = .tick) ∧ (t.dtx.rd ≠ s.dtx.rd → op = .txDrain .dtx)

/-! ### The timer -/

/-- R100, R101, R102: one clock edge. -/
def Obligations.ClockEdgeCountsOrPulses : Prop :=
  ∀ s : State,
    (s.tcnt = s.cfg.fClkHz / 2 - 1 → exec .clk s = .next { s with tcnt := 0, tickPend := true, tickO := true })
      ∧ (s.tcnt ≠ s.cfg.fClkHz / 2 - 1 → exec .clk s = .next { s with tcnt := s.tcnt + 1, tickO := false })

/-- R102, R105: a pulse sets the pending tick, and a pulse that finds it set is merged. That PULSE leaves the timer's
count and `tick_o` alone is the model's choice (log 10). -/
def Obligations.PulseLatchesOneTick : Prop :=
  ∀ s : State,
    exec .pulse s = .next { s with tickPend := true }
      ∧ execAll [.pulse, .pulse, .tick] s = execAll [.pulse, .tick] s

/-- R71, R100, R101: the state after each of `TICK_DIV` clock edges: exactly one of them is a pulse, the one that finds
the terminal count, and after all of them the timer stands where it stood. -/
def Obligations.TickDivEdgesMakeOnePulse : Prop :=
  ∀ (s : State) (j : Nat), s.tcnt < s.cfg.tickDiv → 1 ≤ j → j ≤ s.cfg.tickDiv →
    execAll (List.replicate j .clk) s
      = .next { s with
          tcnt := if s.tcnt + j < s.cfg.tickDiv then s.tcnt + j else s.tcnt + j - s.cfg.tickDiv
          tickPend := s.tickPend || decide (s.cfg.tickDiv ≤ s.tcnt + j)
          tickO := decide (s.tcnt + j = s.cfg.tickDiv) }

/-! ### The tick -/

/-- R121: the conditions that a tick computes from its entry state. -/
def Obligations.TickConditionsAreThoseOfTheRule : Prop :=
  ∀ s : State,
    (s.dec = true ↔ s.hb ≠ 0#8 ∧ s.hb ≠ 0xFF#8 ∧ s.phase = s.cfg.ticksPerCount - 1)
      ∧ (s.fire = true ↔ s.dec = true ∧ s.hb = 1#8)
      ∧ (s.complete = true ↔ s.act = true ∧ s.stepsA = 0#8 ∧ s.stepsB = 0#8)
      ∧ (s.autoarm = true ↔ s.cfg.hasSiren = true ∧ s.dec = true ∧ s.hb - 1#8 = s.cfg.sirenPrewarnCounts)
      ∧ (s.act = false → s.sel = none)
      ∧ (s.act = true → s.cfg.hasRelayReset = true → s.rrst ≠ 0#8 → s.sel = some .relayReset)
      ∧ (s.act = true → s.cfg.hasRelayReset = false ∨ s.rrst = 0#8 → s.stepsA ≠ 0#8 → s.sel = some .stepA)
      ∧ (s.act = true → s.cfg.hasRelayReset = false ∨ s.rrst = 0#8 → s.stepsA = 0#8 → s.stepsB ≠ 0#8 →
          s.sel = some .stepB)
      ∧ (s.act = true → s.cfg.hasRelayReset = false ∨ s.rrst = 0#8 → s.stepsA = 0#8 → s.stepsB = 0#8 →
          s.sel = none)

/-- R120, R135, R196: without a pending tick TICK is not enabled; with one it holds as a whole while HTX is full, or
DTX is full and a command is due. -/
def Obligations.TickWaitsWithoutRequestOrRoom : Prop :=
  ∀ s : State,
    (s.tickPend = false → exec .tick s = .next s)
      ∧ (s.bufFull .htx = true → exec .tick s = .next s)
      ∧ (s.sel ≠ none → s.bufFull .dtx = true → exec .tick s = .next s)

/-- R131: the whole tick, one clause for each row of the table, and what it leaves alone. -/
def Obligations.TickWritesTheNextStateTable : Prop :=
  ∀ s : State, s.tickPend = true → s.bufFull .htx = false → s.sel = none ∨ s.bufFull .dtx = false →
    ∃ t, exec .tick s = .next t
      ∧ t.hb = (if s.fire = true then 0xFF#8 else if s.dec = true then s.hb - 1#8 else s.hb)
      ∧ t.trig = (if s.fire = true then true else s.trig)
      ∧ t.act = (if s.fire = true then true else if s.complete = true then false else s.act)
      ∧ t.stepsA = (if s.fire = true then s.cfg.maxShutterCloseSteps
          else if s.sel = some .stepA then s.stepsA - 1#8 else s.stepsA)
      ∧ t.stepsB = (if s.fire = true then s.cfg.maxShutterCloseSteps
          else if s.sel = some .stepB then s.stepsB - 1#8 else s.stepsB)
      ∧ (s.cfg.hasRelayReset = true → t.rrst = (if s.fire = true then s.cfg.relayResetSteps
          else if s.sel = some .relayReset then s.rrst - 1#8 else s.rrst))
      ∧ (s.cfg.hasRelayReset = false → t.rrst = s.rrst)
      ∧ (s.cfg.hasSiren = true → t.siren = (if s.autoarm = true then s.cfg.sirenArmSteps
          else if s.siren ≠ 0#8 then s.siren - 1#8 else 0#8))
      ∧ (s.cfg.hasSiren = false → t.siren = s.siren)
      ∧ t.gate = (if s.sel = none then false else true)
      ∧ t.blink = !s.blink
      ∧ t.phase = (s.phase + 1) % s.cfg.ticksPerCount
      ∧ t.tickPend = false
      ∧ (s.sel = none → t.dtx = s.dtx)
      ∧ (s.sel = some .relayReset → RingBuf.Pushed (s.cfg.size .dtx) s.dtx t.dtx 0x52#8)
      ∧ (s.sel = some .stepA → RingBuf.Pushed (s.cfg.size .dtx) s.dtx t.dtx 0x41#8)
      ∧ (s.sel = some .stepB → RingBuf.Pushed (s.cfg.size .dtx) s.dtx t.dtx 0x42#8)
      ∧ (s.cfg.statusSample = .entry →
          RingBuf.Pushed (s.cfg.size .htx) s.htx t.htx (statusByte s.hb s.trig s.act))
      ∧ (s.cfg.statusSample = .exit →
          RingBuf.Pushed (s.cfg.size .htx) s.htx t.htx (statusByte t.hb t.trig t.act))
      ∧ t.cfg = s.cfg ∧ t.tcnt = s.tcnt ∧ t.hrx = s.hrx ∧ t.drx = s.drx ∧ t.htxOut = s.htxOut
      ∧ t.dtxOut = s.dtxOut ∧ t.tickO = s.tickO ∧ t.ret = s.ret ∧ t.script = s.script ∧ t.draws = s.draws

/-- R132: the sequential program of the tick gives the state that TICK gives. -/
def Obligations.TickEqualsItsSequentialProgram : Prop :=
  ∀ s : State, s.tickPend = true → s.bufFull .htx = false → s.sel = none ∨ s.bufFull .dtx = false →
    exec .tick s = .next s.tickSequence

/-- R123, R25 I4: the countdown: never below 0, never at 0 or 0xFF. -/
def Obligations.TickCountsDown : Prop :=
  ∀ s t : State, s.tickPend = true → s.bufFull .htx = false → s.sel = none ∨ s.bufFull .dtx = false →
    exec .tick s = .next t →
      (s.hb = 0#8 ∨ s.hb = 0xFF#8 ∨ s.phase ≠ s.cfg.ticksPerCount - 1 → t.hb = s.hb)
        ∧ (2 ≤ s.hb.toNat → s.hb ≠ 0xFF#8 → s.phase = s.cfg.ticksPerCount - 1 → t.hb.toNat = s.hb.toNat - 1)

/-- R124: the decrementing tick that finds 1 triggers; it sends no dome-link byte, `act` being 0 at its entry. -/
def Obligations.TickTriggersAtOne : Prop :=
  ∀ s : State, s.tickPend = true → s.bufFull .htx = false → s.hb = 1#8 → s.phase = s.cfg.ticksPerCount - 1 →
    s.act = false →
    ∃ t, exec .tick s = .next t ∧ t.hb = 0xFF#8 ∧ t.trig = true ∧ t.act = true ∧ t.relayO = true
      ∧ t.stepsA = s.cfg.maxShutterCloseSteps ∧ t.stepsB = s.cfg.maxShutterCloseSteps
      ∧ (s.cfg.hasRelayReset = true → t.rrst = s.cfg.relayResetSteps) ∧ t.dtx = s.dtx ∧ t.statusNow = 254#8

/-- R125: the tick that finds both step counters 0 ends the close sequence, whatever `rrst`; the counter and the
triggered flag stay. -/
def Obligations.TickCompletesTheClose : Prop :=
  ∀ s : State, s.tickPend = true → s.bufFull .htx = false → s.sel = none ∨ s.bufFull .dtx = false →
    s.act = true → s.stepsA = 0#8 → s.stepsB = 0#8 → s.trig = true → s.hb = 0xFF#8 →
    ∃ t, exec .tick s = .next t ∧ t.act = false ∧ t.relayO = false ∧ t.trig = true ∧ t.hb = 0xFF#8
      ∧ t.statusNow = 255#8

/-- R113, R128, R153: the siren runs for exactly as many ticks as its counter says and then falls, in every state of
the controller whose transports drain, unless the countdown passes the arming value on the way: the premise is that the
controller is triggered, or counts from the arming value or below, or makes too few of its counts in `n` ticks to reach
it. (A disabled controller sends no command and needs no room in DTX.) -/
def Obligations.SirenRunsItsTicks : Prop :=
  ∀ (s : State) (n : Nat), s.Inv → s.cfg.hasSiren = true → s.bufCanRead .htx = false →
    s.hb = 0#8 ∨ s.bufCanRead .dtx = false →
    s.trig = true ∨ s.hb.toNat ≤ s.cfg.sirenPrewarnCounts.toNat
      ∨ (s.phase + n) / s.cfg.ticksPerCount < s.hb.toNat - s.cfg.sirenPrewarnCounts.toNat →
    n ≤ s.siren.toNat →
    ∃ t, execAll (macroTs n) s = .next t ∧ t.siren.toNat = s.siren.toNat - n
      ∧ (t.sirenO = true ↔ n < s.siren.toNat)

/-- R122, R127, R129: the prescaler, the rate-limit gate and the blink indicator, on every tick that is performed. -/
def Obligations.TickAdvancesPhaseGateAndBlink : Prop :=
  ∀ s t : State, s.tickPend = true → s.bufFull .htx = false → s.sel = none ∨ s.bufFull .dtx = false →
    exec .tick s = .next t →
      t.phase = (s.phase + 1) % s.cfg.ticksPerCount ∧ t.blink = !s.blink
        ∧ (t.gate = true ↔ t.dtx.wr = (s.dtx.wr + 1) % s.cfg.size .dtx ∧ s.sel ≠ none)

/-- R165, the rows of TICK: where a performed tick takes each conceptual state. -/
def Obligations.TickMovesBetweenConceptualStates : Prop :=
  ∀ s t : State, s.Inv → s.tickPend = true → s.bufFull .htx = false → s.sel = none ∨ s.bufFull .dtx = false →
    exec .tick s = .next t →
      (s.conceptual = some .disabled → t.conceptual = some .disabled)
        ∧ (s.conceptual = some .counting → s.phase = s.cfg.ticksPerCount - 1 → 2 ≤ s.hb.toNat →
            t.conceptual = some .counting ∧ t.hb = s.hb - 1#8)
        ∧ (s.conceptual = some .counting → s.phase ≠ s.cfg.ticksPerCount - 1 →
            t.conceptual = some .counting ∧ t.hb = s.hb)
        ∧ (s.conceptual = some .counting → s.phase = s.cfg.ticksPerCount - 1 → s.hb = 1#8 →
            t.conceptual = some .triggeredClosing)
        ∧ (s.conceptual = some .triggeredClosing → s.stepsA ≠ 0#8 ∨ s.stepsB ≠ 0#8 →
            t.conceptual = some .triggeredClosing ∧ t.gate = true)
        ∧ (s.conceptual = some .triggeredClosing → s.stepsA = 0#8 → s.stepsB = 0#8 →
            t.conceptual = some .triggeredIdle ∧ t.relayO = false)
        ∧ (s.conceptual = some .triggeredIdle → t.conceptual = some .triggeredIdle)

/-- R123, R124, R204: with a silent host and draining transports a counting controller triggers at exactly the tick
that the count, the cadence and the prescaler give, and at none before. -/
def Obligations.SilentHostTriggersOnTime : Prop :=
  ∀ s : State, s.Inv → s.trig = false → s.hb ≠ 0#8 → s.bufCanRead .htx = false → s.bufCanRead .dtx = false →
    (∀ n, n < (s.hb.toNat - 1) * s.cfg.ticksPerCount + (s.cfg.ticksPerCount - s.phase) →
      ∃ t, execAll (macroTs n) s = .next t ∧ t.trig = false ∧ t.act = false)
    ∧ ∃ t, execAll (macroTs ((s.hb.toNat - 1) * s.cfg.ticksPerCount + (s.cfg.ticksPerCount - s.phase))) s = .next t
        ∧ t.trig = true ∧ t.act = true ∧ t.stepsA = s.cfg.maxShutterCloseSteps
        ∧ t.stepsB = s.cfg.maxShutterCloseSteps

/-- R126, R204: an unconfirmed close with draining transports sends its relay resets, then its steps for shutter A,
then those for shutter B, one a tick; the relay falls one tick after the last. (Where both step counters are 0 the next
tick ends the sequence whatever `rrst`, R125; the premise leaves that case out.) -/
def Obligations.UnconfirmedCloseRunsItsLength : Prop :=
  ∀ s : State, s.Inv → s.act = true → s.bufCanRead .htx = false → s.bufCanRead .dtx = false →
    (s.stepsA ≠ 0#8 ∨ s.stepsB ≠ 0#8 ∨ s.rrst = 0#8) →
    (∀ n, n ≤ s.rrst.toNat + s.stepsA.toNat + s.stepsB.toNat →
      ∃ t, execAll (macroTs n) s = .next t ∧ t.act = true)
    ∧ (∃ t, execAll (macroTs (s.rrst.toNat + s.stepsA.toNat + s.stepsB.toNat + 1)) s = .next t
        ∧ t.act = false ∧ t.trig = true ∧ t.rrst = 0#8 ∧ t.stepsA = 0#8 ∧ t.stepsB = 0#8)
    ∧ ∀ n, s.script = (macroTs n).map encode → n = s.rrst.toNat + s.stepsA.toNat + s.stepsB.toNat →
        domeTrace (4 * n) s
          = List.replicate s.rrst.toNat 0x52#8 ++ List.replicate s.stepsA.toNat 0x41#8
            ++ List.replicate s.stepsB.toNat 0x42#8

/-- R110, R126: after a disable no residual step is sent: ticks of a disabled controller leave DTX and the step
counters as they are. -/
def Obligations.DisabledControllerSendsNoCommand : Prop :=
  ∀ (s : State) (n : Nat), s.Inv → s.hb = 0#8 → s.bufCanRead .htx = false → s.bufCanRead .dtx = false →
    ∃ t, execAll (macroTs n) s = .next t ∧ t.dtx = s.dtx ∧ t.stepsA = s.stepsA ∧ t.stepsB = s.stepsB
      ∧ t.rrst = s.rrst ∧ t.hb = 0#8 ∧ t.act = false

/-! ### Sent messages, status and outputs -/

/-- R126, R127, R133, R156: where a tick is pending with room in both transmit buffers, the dome command that is due is
sent by that TICK: its byte is pushed, its counter decremented (the trigger's load wins, R124), the gate set. That the
row alone stands for this TICK is the model's reading (log 6); what else the TICK does, TickWritesTheNextStateTable
says. -/
def Obligations.DomeCommandsAreSentByPriority : Prop :=
  ∀ s : State, s.tickPend = true → s.bufFull .htx = false → s.bufFull .dtx = false → s.act = true →
    (s.cfg.hasRelayReset = true → s.rrst ≠ 0#8 →
      ∃ t, exec .cReset s = .next t ∧ exec .tick s = .next t ∧ RingBuf.Pushed (s.cfg.size .dtx) s.dtx t.dtx 0x52#8
        ∧ t.gate = true ∧ (s.fire = false → t.rrst = s.rrst - 1#8))
    ∧ (s.cfg.hasRelayReset = false ∨ s.rrst = 0#8 → s.stepsA ≠ 0#8 →
      ∃ t, exec .cStepA s = .next t ∧ exec .tick s = .next t ∧ RingBuf.Pushed (s.cfg.size .dtx) s.dtx t.dtx 0x41#8
        ∧ t.gate = true ∧ (s.fire = false → t.stepsA = s.stepsA - 1#8))
    ∧ (s.cfg.hasRelayReset = false ∨ s.rrst = 0#8 → s.stepsA = 0#8 → s.stepsB ≠ 0#8 →
      ∃ t, exec .cStepB s = .next t ∧ exec .tick s = .next t ∧ RingBuf.Pushed (s.cfg.size .dtx) s.dtx t.dtx 0x42#8
        ∧ t.gate = true ∧ (s.fire = false → t.stepsB = s.stepsB - 1#8))

/-- R126, R133, R135, log 3, 6: where no tick is pending, it is held, or it would send another command or none, a dome
command is not sent and nothing changes. -/
def Obligations.DomeCommandsAreNotSentOtherwise : Prop :=
  ∀ s : State,
    (s.tickPend = false ∨ s.bufFull .htx = true ∨ s.bufFull .dtx = true ∨ s.sel ≠ some .relayReset →
        exec .cReset s = .next s)
      ∧ (s.tickPend = false ∨ s.bufFull .htx = true ∨ s.bufFull .dtx = true ∨ s.sel ≠ some .stepA →
        exec .cStepA s = .next s)
      ∧ (s.tickPend = false ∨ s.bufFull .htx = true ∨ s.bufFull .dtx = true ∨ s.sel ≠ some .stepB →
        exec .cStepB s = .next s)

/-- R130, R133, R150: where a tick is pending and not held, the status report is sent by that TICK: the byte it reports
is pushed into HTX, and it is the status byte of the tick's entry or exit state as STATUS_SAMPLE says. That the row of
the byte alone stands for this TICK is the model's reading (log 7); what else the TICK does,
TickWritesTheNextStateTable says. -/
def Obligations.StatusReportsArePushed : Prop :=
  ∀ s : State, s.tickPend = true → s.bufFull .htx = false → s.sel = none ∨ s.bufFull .dtx = false →
    ∃ t, exec .tick s = .next t ∧ RingBuf.Pushed (s.cfg.size .htx) s.htx t.htx s.tickReport
      ∧ (s.cfg.statusSample = .entry → s.tickReport = s.statusNow)
      ∧ (s.cfg.statusSample = .exit → s.tickReport = t.statusNow)
      ∧ (s.tickReport = 254#8 → exec .sClosing s = .next t)
      ∧ (s.tickReport = 255#8 → exec .sTriggered s = .next t)
      ∧ (s.tickReport = 0#8 → exec .sDisabled s = .next t)
      ∧ (1 ≤ s.tickReport.toNat → s.tickReport.toNat ≤ 240 → exec (.sCount s.tickReport) s = .next t)

/-- R130, R133, R135, log 3, 7: where no tick is pending, it is held, or it would report another byte, a status report
is not sent and nothing changes. -/
def Obligations.StatusReportsAreNotSentOtherwise : Prop :=
  ∀ (s : State) (v : Byte),
    s.tickPend = false ∨ s.bufFull .htx = true ∨ (s.sel ≠ none ∧ s.bufFull .dtx = true) ∨ s.tickReport ≠ v →
    (v = 254#8 → exec .sClosing s = .next s) ∧ (v = 255#8 → exec .sTriggered s = .next s)
      ∧ (v = 0#8 → exec .sDisabled s = .next s) ∧ exec (.sCount v) s = .next s

/-- R150: STATUS returns 254 if active, else 255 if triggered, else the counter, and writes nothing of the block. That
the returned value is held in `ret` is the model's choice (log 4). -/
def Obligations.StatusReturnsTheStatusByte : Prop :=
  ∀ s : State, ∃ b : Byte,
    exec .status s = .next { s with ret := some (.byte b) }
      ∧ (s.act = true → b = 254#8) ∧ (s.act = false → s.trig = true → b = 255#8)
      ∧ (s.act = false → s.trig = false → b = s.hb)

/-- R151, R24: the status byte of each conceptual state; 241..253 never occur. -/
def Obligations.StatusByteTellsTheConceptualState : Prop :=
  ∀ s : State, s.Inv →
    (s.conceptual = some .disabled → s.statusNow = 0#8)
      ∧ (s.conceptual = some .counting →
          s.statusNow = s.hb ∧ 1 ≤ s.statusNow.toNat ∧ s.statusNow.toNat ≤ 240)
      ∧ (s.conceptual = some .triggeredClosing → s.statusNow = 254#8)
      ∧ (s.conceptual = some .triggeredIdle → s.statusNow = 255#8)
      ∧ s.conceptual ≠ none

/-- R152 to R155: the output pins as functions of the state. -/
def Obligations.OutputPinsFollowTheState : Prop :=
  ∀ s : State,
    s.relayO = s.act
      ∧ (s.sirenO = true ↔ s.cfg.hasSiren = true ∧ s.siren ≠ 0#8)
      ∧ (s.trig = true → s.indModeO = 2#2)
      ∧ (s.trig = false → s.hb ≠ 0#8 → s.indModeO = 1#2)
      ∧ (s.trig = false → s.hb = 0#8 → s.indModeO = 0#2)
      ∧ s.indBlinkO = s.blink

/-! ### The main loop, reset and the clock cycle -/

/-- R160: HOST_POLL pops the oldest byte and performs the command that it decodes to, in one step; on an empty buffer
it is not enabled. Where nothing has written the slot the byte is free (U6, log 8). -/
def Obligations.HostPollPerformsTheCommand : Prop :=
  ∀ s : State,
    (∀ b, s.bufCanRead .hrx = true → Memory.read s.hrx.mem s.hrx.rd = some b →
      ∃ (i : Instr) (t : State), decode s.cfg (.message .hostToDevice b) = .instr i
        ∧ exec i { s with hrx := { s.hrx with rd := (s.hrx.rd + 1) % s.cfg.size .hrx } } = .next t
        ∧ exec .hostPoll s = .next t)
    ∧ (s.bufCanRead .hrx = true → Memory.read s.hrx.mem s.hrx.rd = none →
      ∃ (b : Byte) (i : Instr) (t : State), decode s.cfg (.message .hostToDevice b) = .instr i
        ∧ exec i { s with
            hrx := { s.hrx with rd := (s.hrx.rd + 1) % s.cfg.size .hrx }, draws := s.draws + 1 } = .next t
        ∧ exec .hostPoll s = .next t)
    ∧ (s.bufCanRead .hrx = false → exec .hostPoll s = .next s)

/-- R161: DOME_POLL pops the oldest byte and performs the response that it decodes to, in one step; on an empty buffer
it is not enabled. Where nothing has written the slot the byte is free (U6, log 8). -/
def Obligations.DomePollPerformsTheResponse : Prop :=
  ∀ s : State,
    (∀ b, s.bufCanRead .drx = true → Memory.read s.drx.mem s.drx.rd = some b →
      ∃ (i : Instr) (t : State), decode s.cfg (.message .domeToDevice b) = .instr i
        ∧ exec i { s with drx := { s.drx with rd := (s.drx.rd + 1) % s.cfg.size .drx } } = .next t
        ∧ exec .domePoll s = .next t)
    ∧ (s.bufCanRead .drx = true → Memory.read s.drx.mem s.drx.rd = none →
      ∃ (b : Byte) (i : Instr) (t : State), decode s.cfg (.message .domeToDevice b) = .instr i
        ∧ exec i { s with
            drx := { s.drx with rd := (s.drx.rd + 1) % s.cfg.size .drx }, draws := s.draws + 1 } = .next t
        ∧ exec .domePoll s = .next t)
    ∧ (s.bufCanRead .drx = false → exec .domePoll s = .next s)

/-- R164: a HOST_POLL and a DOME_POLL commute. -/
def Obligations.PollsOfTheTwoLinksCommute : Prop :=
  ∀ s : State, s.Inv → execAll [.hostPoll, .domePoll] s = execAll [.domePoll, .hostPoll] s

/-- R190, R32: RESET gives every piece of the block's state its reset value, from every state. The parameters stay. That
the script stays too is the model's choice (log 16). -/
def Obligations.ResetGivesTheResetValues : Prop :=
  ∀ s : State, ∃ t, exec .reset s = .next t
    ∧ t.hb = 0#8 ∧ t.trig = false ∧ t.act = false ∧ t.stepsA = 0#8 ∧ t.stepsB = 0#8 ∧ t.siren = 0#8
    ∧ t.rrst = 0#8 ∧ t.gate = false ∧ t.blink = false ∧ t.phase = 0 ∧ t.tickPend = false ∧ t.tcnt = 0
    ∧ (∀ f : BufId, (t.buf f).rd = 0 ∧ (t.buf f).wr = 0 ∧ t.bufCanRead f = false)
    ∧ t.relayO = false ∧ t.sirenO = false ∧ t.indModeO = 0#2 ∧ t.indBlinkO = false
    ∧ t.htxOut = none ∧ t.dtxOut = none ∧ t.tickO = false
    ∧ t.cfg = s.cfg ∧ t.script = s.script

/-- R176, R82, R88, R89, R100, R190: the operations of one clock cycle: under `rst` RESET alone; otherwise an arrival
exactly when one is presented at a buffer that is not full, a drain exactly when its transport is ready and its buffer
not empty, of TICK, HOST_POLL and DOME_POLL only the first that is enabled, and the clock edge, none of them twice. -/
def Obligations.ClockCycleChoosesByPriority : Prop :=
  ∀ (s : State) (inp : Inputs),
    (inp.rst = true → s.cycleOps inp = [.reset])
      ∧ (inp.rst = false →
          (∀ op ∈ s.cycleOps inp, s.enabled op = true)
            ∧ (s.cycleOps inp).Nodup
            ∧ (∀ b, .rxArrive .hrx b ∈ s.cycleOps inp ↔ inp.hrx = some b ∧ s.bufFull .hrx = false)
            ∧ (∀ b, .rxArrive .drx b ∈ s.cycleOps inp ↔ inp.drx = some b ∧ s.bufFull .drx = false)
            ∧ (.txDrain .htx ∈ s.cycleOps inp ↔ inp.htxReady = true ∧ s.bufCanRead .htx = true)
            ∧ (.txDrain .dtx ∈ s.cycleOps inp ↔ inp.dtxReady = true ∧ s.bufCanRead .dtx = true)
            ∧ .clk ∈ s.cycleOps inp ∧ .pulse ∉ s.cycleOps inp ∧ .reset ∉ s.cycleOps inp
            ∧ (.tick ∈ s.cycleOps inp ↔ s.enabled .tick = true)
            ∧ (.hostPoll ∈ s.cycleOps inp ↔ s.enabled .tick = false ∧ s.enabled .hostPoll = true)
            ∧ (.domePoll ∈ s.cycleOps inp ↔
                s.enabled .tick = false ∧ s.enabled .hostPoll = false ∧ s.enabled .domePoll = true))

/-- R89, R176: the operations that a clock cycle chooses on its entry state are one of the admitted interleavings: each
is still enabled when its turn comes, and no arrival among them finds its buffer full. -/
def Obligations.ClockCycleIsAnInterleaving : Prop :=
  ∀ (s : State) (inp : Inputs) (before after : List AgentOp) (op : AgentOp),
    s.Inv → s.cycleOps inp = before ++ op :: after →
      ∃ t, execAll (before.map fun o => o.event.instr) s = .next t
        ∧ t.enabled op = true ∧ ∀ f b, op = .rxArrive f b → t.bufFull f.id = false

/-! ### Who writes what, and what the links carry -/

/-- R25 I9, R18, R127: at the end of every sequence of operations the gate is set exactly when the last TICK performed
sent a dome-link command; before the first TICK the gate is as it was (after RESET, clear). -/
def Obligations.GateTellsWhetherTheLastTickSent : Prop :=
  ∀ (ops : List Instr) (s t : State), s.cfg.wf = true → execAll ops s = .next t →
    t.gate = lastTickSent ops s s.gate

/-- R62, R63, R130, R133, R151, R156: with draining transports the host receives exactly one report for each tick, the
status byte of that tick's entry or exit state; and in every interleaving of the agents' operations from reset the host
receives none of the bytes 241 to 253 and the dome none but the command bytes. -/
def Obligations.LinksCarryOneReportATickAndTableBytesOnly : Prop :=
  (∀ (s : State) (n : Nat), s.Inv → s.bufCanRead .htx = false → s.bufCanRead .dtx = false →
    s.script = (macroTs n).map encode →
    (hostTrace (4 * n) s).length = n
      ∧ ∀ k, k < n → ∃ u v, execAll (macroTs k) s = .next u ∧ execAll (macroTs (k + 1)) s = .next v
          ∧ (hostTrace (4 * n) s)[k]? = some (if s.cfg.statusSample = .entry then u.statusNow else v.statusNow))
  ∧ ∀ (c : Config) (ops : List AgentOp), c.wf = true →
    (∀ b ∈ hostTrace ops.length { State.resetWith c with script := ops.map fun op => .event op.event },
        b.toNat ≤ 240 ∨ 254 ≤ b.toNat)
      ∧ ∀ b ∈ domeTrace ops.length { State.resetWith c with script := ops.map fun op => .event op.event },
        b = 0x41#8 ∨ b = 0x42#8 ∨ (b = 0x52#8 ∧ c.hasRelayReset = true)

/-- R10, R12 to R21: each variable of the controller is written only by the operations that its rule names (and by
RESET); a message that the block sends is written by a TICK or changes nothing (R133, log 6, 7). -/
def Obligations.VariablesAreWrittenByTheirOperationsOnly : Prop :=
  ∀ (i : Instr) (s t : State), exec i s = .next t →
    (i.ofTick = true → t = s ∨ exec .tick s = .next t)
      ∧ (t.hb ≠ s.hb → i.ofTick = true ∨ i = .reset ∨ i = .hostPoll ∨ i = .hDisable ∨ ∃ v, i = .hArm v)
      ∧ (t.trig ≠ s.trig → i.ofTick = true ∨ i = .reset ∨ i = .hostPoll ∨ i = .hDisable)
      ∧ (t.act ≠ s.act → i.ofTick = true ∨ i = .reset ∨ i = .hostPoll ∨ i = .hDisable)
      ∧ (t.stepsA ≠ s.stepsA → i.ofTick = true ∨ i = .reset ∨ i = .domePoll ∨ i = .dClosedA ∨ i = .dClosedBoth)
      ∧ (t.stepsB ≠ s.stepsB → i.ofTick = true ∨ i = .reset ∨ i = .domePoll ∨ i = .dClosedB ∨ i = .dClosedBoth)
      ∧ (t.siren ≠ s.siren → i.ofTick = true ∨ i = .reset ∨ i = .hostPoll ∨ i = .hSiren)
      ∧ (t.rrst ≠ s.rrst → i.ofTick = true ∨ i = .reset)
      ∧ (t.gate ≠ s.gate → i.ofTick = true ∨ i = .reset)
      ∧ (t.blink ≠ s.blink → i.ofTick = true ∨ i = .reset)
      ∧ (t.phase ≠ s.phase → i.ofTick = true ∨ i = .reset)
      ∧ (t.tickPend ≠ s.tickPend → i.ofTick = true ∨ i = .reset ∨ i = .clk ∨ i = .pulse)
end

