-- ==== Sys2Proof/Laws/State.lean ====
section
/-! SUPPORT. One small lemma for each field and each update of State, so that no later proof unfolds an update. -/

namespace Sys2Proof.Machine

/-! ### Ring buffers by name -/

@[simp] theorem State.buf_hrx (s : State) : s.buf .hrx = s.hrx := rfl
@[simp] theorem State.buf_htx (s : State) : s.buf .htx = s.htx := rfl
@[simp] theorem State.buf_drx (s : State) : s.buf .drx = s.drx := rfl
@[simp] theorem State.buf_dtx (s : State) : s.buf .dtx = s.dtx := rfl
@[simp] theorem RxBuf.id_hrx : RxBuf.hrx.id = BufId.hrx := rfl
@[simp] theorem RxBuf.id_drx : RxBuf.drx.id = BufId.drx := rfl
@[simp] theorem TxBuf.id_htx : TxBuf.htx.id = BufId.htx := rfl
@[simp] theorem TxBuf.id_dtx : TxBuf.dtx.id = BufId.dtx := rfl

@[simp] theorem State.setBuf_hrx_eq (s : State) (r : RingBuf) : s.setBuf .hrx r = { s with hrx := r } := rfl
@[simp] theorem State.setBuf_htx_eq (s : State) (r : RingBuf) : s.setBuf .htx r = { s with htx := r } := rfl
@[simp] theorem State.setBuf_drx_eq (s : State) (r : RingBuf) : s.setBuf .drx r = { s with drx := r } := rfl
@[simp] theorem State.setBuf_dtx_eq (s : State) (r : RingBuf) : s.setBuf .dtx r = { s with dtx := r } := rfl

@[simp] theorem State.buf_setBuf_same (s : State) (f : BufId) (r : RingBuf) : (s.setBuf f r).buf f = r := by
  cases f <;> rfl

theorem State.buf_setBuf_ne (s : State) {f g : BufId} (r : RingBuf) (h : g ≠ f) :
    (s.setBuf f r).buf g = s.buf g := by
  cases f <;> cases g <;> first | rfl | exact absurd rfl h

@[simp] theorem State.setBuf_buf_self (s : State) (f : BufId) : s.setBuf f (s.buf f) = s := by
  cases f <;> rfl

@[simp] theorem State.setBuf_setBuf (s : State) (f : BufId) (r r' : RingBuf) :
    (s.setBuf f r).setBuf f r' = s.setBuf f r' := by
  cases f <;> rfl

/-! ### setBuf -/

@[simp] theorem State.setBuf_cfg (s : State) (f : BufId) (r : RingBuf) : (s.setBuf f r).cfg = s.cfg := by cases f <;> rfl
@[simp] theorem State.setBuf_hb (s : State) (f : BufId) (r : RingBuf) : (s.setBuf f r).hb = s.hb := by cases f <;> rfl
@[simp] theorem State.setBuf_trig (s : State) (f : BufId) (r : RingBuf) : (s.setBuf f r).trig = s.trig := by cases f <;> rfl
@[simp] theorem State.setBuf_act (s : State) (f : BufId) (r : RingBuf) : (s.setBuf f r).act = s.act := by cases f <;> rfl
@[simp] theorem State.setBuf_stepsA (s : State) (f : BufId) (r : RingBuf) : (s.setBuf f r).stepsA = s.stepsA := by cases f <;> rfl
@[simp] theorem State.setBuf_stepsB (s : State) (f : BufId) (r : RingBuf) : (s.setBuf f r).stepsB = s.stepsB := by cases f <;> rfl
@[simp] theorem State.setBuf_siren (s : State) (f : BufId) (r : RingBuf) : (s.setBuf f r).siren = s.siren := by cases f <;> rfl
@[simp] theorem State.setBuf_rrst (s : State) (f : BufId) (r : RingBuf) : (s.setBuf f r).rrst = s.rrst := by cases f <;> rfl
@[simp] theorem State.setBuf_gate (s : State) (f : BufId) (r : RingBuf) : (s.setBuf f r).gate = s.gate := by cases f <;> rfl
@[simp] theorem State.setBuf_blink (s : State) (f : BufId) (r : RingBuf) : (s.setBuf f r).blink = s.blink := by cases f <;> rfl
@[simp] theorem State.setBuf_phase (s : State) (f : BufId) (r : RingBuf) : (s.setBuf f r).phase = s.phase := by cases f <;> rfl
@[simp] theorem State.setBuf_tickPend (s : State) (f : BufId) (r : RingBuf) : (s.setBuf f r).tickPend = s.tickPend := by cases f <;> rfl
@[simp] theorem State.setBuf_tcnt (s : State) (f : BufId) (r : RingBuf) : (s.setBuf f r).tcnt = s.tcnt := by cases f <;> rfl
@[simp] theorem State.setBuf_htxOut (s : State) (f : BufId) (r : RingBuf) : (s.setBuf f r).htxOut = s.htxOut := by cases f <;> rfl
@[simp] theorem State.setBuf_dtxOut (s : State) (f : BufId) (r : RingBuf) : (s.setBuf f r).dtxOut = s.dtxOut := by cases f <;> rfl
@[simp] theorem State.setBuf_tickO (s : State) (f : BufId) (r : RingBuf) : (s.setBuf f r).tickO = s.tickO := by cases f <;> rfl
@[simp] theorem State.setBuf_ret (s : State) (f : BufId) (r : RingBuf) : (s.setBuf f r).ret = s.ret := by cases f <;> rfl
@[simp] theorem State.setBuf_script (s : State) (f : BufId) (r : RingBuf) : (s.setBuf f r).script = s.script := by cases f <;> rfl
@[simp] theorem State.setBuf_draws (s : State) (f : BufId) (r : RingBuf) : (s.setBuf f r).draws = s.draws := by cases f <;> rfl

/-! ### push -/

@[simp] theorem State.push_cfg (s : State) (f : BufId) (b : Byte) : (s.push f b).cfg = s.cfg := by cases f <;> rfl
@[simp] theorem State.push_hb (s : State) (f : BufId) (b : Byte) : (s.push f b).hb = s.hb := by cases f <;> rfl
@[simp] theorem State.push_trig (s : State) (f : BufId) (b : Byte) : (s.push f b).trig = s.trig := by cases f <;> rfl
@[simp] theorem State.push_act (s : State) (f : BufId) (b : Byte) : (s.push f b).act = s.act := by cases f <;> rfl
@[simp] theorem State.push_stepsA (s : State) (f : BufId) (b : Byte) : (s.push f b).stepsA = s.stepsA := by cases f <;> rfl
@[simp] theorem State.push_stepsB (s : State) (f : BufId) (b : Byte) : (s.push f b).stepsB = s.stepsB := by cases f <;> rfl
@[simp] theorem State.push_siren (s : State) (f : BufId) (b : Byte) : (s.push f b).siren = s.siren := by cases f <;> rfl
@[simp] theorem State.push_rrst (s : State) (f : BufId) (b : Byte) : (s.push f b).rrst = s.rrst := by cases f <;> rfl
@[simp] theorem State.push_gate (s : State) (f : BufId) (b : Byte) : (s.push f b).gate = s.gate := by cases f <;> rfl
@[simp] theorem State.push_blink (s : State) (f : BufId) (b : Byte) : (s.push f b).blink = s.blink := by cases f <;> rfl
@[simp] theorem State.push_phase (s : State) (f : BufId) (b : Byte) : (s.push f b).phase = s.phase := by cases f <;> rfl
@[simp] theorem State.push_tickPend (s : State) (f : BufId) (b : Byte) : (s.push f b).tickPend = s.tickPend := by cases f <;> rfl
@[simp] theorem State.push_tcnt (s : State) (f : BufId) (b : Byte) : (s.push f b).tcnt = s.tcnt := by cases f <;> rfl
@[simp] theorem State.push_htxOut (s : State) (f : BufId) (b : Byte) : (s.push f b).htxOut = s.htxOut := by cases f <;> rfl
@[simp] theorem State.push_dtxOut (s : State) (f : BufId) (b : Byte) : (s.push f b).dtxOut = s.dtxOut := by cases f <;> rfl
@[simp] theorem State.push_tickO (s : State) (f : BufId) (b : Byte) : (s.push f b).tickO = s.tickO := by cases f <;> rfl
@[simp] theorem State.push_ret (s : State) (f : BufId) (b : Byte) : (s.push f b).ret = s.ret := by cases f <;> rfl
@[simp] theorem State.push_script (s : State) (f : BufId) (b : Byte) : (s.push f b).script = s.script := by cases f <;> rfl
@[simp] theorem State.push_draws (s : State) (f : BufId) (b : Byte) : (s.push f b).draws = s.draws := by cases f <;> rfl

@[simp] theorem State.push_hrx_htx (s : State) (b : Byte) : (s.push .hrx b).htx = s.htx := rfl
@[simp] theorem State.push_hrx_drx (s : State) (b : Byte) : (s.push .hrx b).drx = s.drx := rfl
@[simp] theorem State.push_hrx_dtx (s : State) (b : Byte) : (s.push .hrx b).dtx = s.dtx := rfl
@[simp] theorem State.push_htx_hrx (s : State) (b : Byte) : (s.push .htx b).hrx = s.hrx := rfl
@[simp] theorem State.push_htx_drx (s : State) (b : Byte) : (s.push .htx b).drx = s.drx := rfl
@[simp] theorem State.push_htx_dtx (s : State) (b : Byte) : (s.push .htx b).dtx = s.dtx := rfl
@[simp] theorem State.push_drx_hrx (s : State) (b : Byte) : (s.push .drx b).hrx = s.hrx := rfl
@[simp] theorem State.push_drx_htx (s : State) (b : Byte) : (s.push .drx b).htx = s.htx := rfl
@[simp] theorem State.push_drx_dtx (s : State) (b : Byte) : (s.push .drx b).dtx = s.dtx := rfl
@[simp] theorem State.push_dtx_hrx (s : State) (b : Byte) : (s.push .dtx b).hrx = s.hrx := rfl
@[simp] theorem State.push_dtx_htx (s : State) (b : Byte) : (s.push .dtx b).htx = s.htx := rfl
@[simp] theorem State.push_dtx_drx (s : State) (b : Byte) : (s.push .dtx b).drx = s.drx := rfl

/-! ### popped -/

@[simp] theorem State.popped_cfg (s : State) (f : BufId) : (s.popped f).cfg = s.cfg := by cases f <;> rfl
@[simp] theorem State.popped_hb (s : State) (f : BufId) : (s.popped f).hb = s.hb := by cases f <;> rfl
@[simp] theorem State.popped_trig (s : State) (f : BufId) : (s.popped f).trig = s.trig := by cases f <;> rfl
@[simp] theorem State.popped_act (s : State) (f : BufId) : (s.popped f).act = s.act := by cases f <;> rfl
@[simp] theorem State.popped_stepsA (s : State) (f : BufId) : (s.popped f).stepsA = s.stepsA := by cases f <;> rfl
@[simp] theorem State.popped_stepsB (s : State) (f : BufId) : (s.popped f).stepsB = s.stepsB := by cases f <;> rfl
@[simp] theorem State.popped_siren (s : State) (f : BufId) : (s.popped f).siren = s.siren := by cases f <;> rfl
@[simp] theorem State.popped_rrst (s : State) (f : BufId) : (s.popped f).rrst = s.rrst := by cases f <;> rfl
@[simp] theorem State.popped_gate (s : State) (f : BufId) : (s.popped f).gate = s.gate := by cases f <;> rfl
@[simp] theorem State.popped_blink (s : State) (f : BufId) : (s.popped f).blink = s.blink := by cases f <;> rfl
@[simp] theorem State.popped_phase (s : State) (f : BufId) : (s.popped f).phase = s.phase := by cases f <;> rfl
@[simp] theorem State.popped_tickPend (s : State) (f : BufId) : (s.popped f).tickPend = s.tickPend := by cases f <;> rfl
@[simp] theorem State.popped_tcnt (s : State) (f : BufId) : (s.popped f).tcnt = s.tcnt := by cases f <;> rfl
@[simp] theorem State.popped_htxOut (s : State) (f : BufId) : (s.popped f).htxOut = s.htxOut := by cases f <;> rfl
@[simp] theorem State.popped_dtxOut (s : State) (f : BufId) : (s.popped f).dtxOut = s.dtxOut := by cases f <;> rfl
@[simp] theorem State.popped_tickO (s : State) (f : BufId) : (s.popped f).tickO = s.tickO := by cases f <;> rfl
@[simp] theorem State.popped_ret (s : State) (f : BufId) : (s.popped f).ret = s.ret := by cases f <;> rfl
@[simp] theorem State.popped_script (s : State) (f : BufId) : (s.popped f).script = s.script := by cases f <;> rfl

@[simp] theorem State.popped_hrx_htx (s : State) : (s.popped .hrx).htx = s.htx := rfl
@[simp] theorem State.popped_hrx_drx (s : State) : (s.popped .hrx).drx = s.drx := rfl
@[simp] theorem State.popped_hrx_dtx (s : State) : (s.popped .hrx).dtx = s.dtx := rfl
@[simp] theorem State.popped_htx_hrx (s : State) : (s.popped .htx).hrx = s.hrx := rfl
@[simp] theorem State.popped_htx_drx (s : State) : (s.popped .htx).drx = s.drx := rfl
@[simp] theorem State.popped_htx_dtx (s : State) : (s.popped .htx).dtx = s.dtx := rfl
@[simp] theorem State.popped_drx_hrx (s : State) : (s.popped .drx).hrx = s.hrx := rfl
@[simp] theorem State.popped_drx_htx (s : State) : (s.popped .drx).htx = s.htx := rfl
@[simp] theorem State.popped_drx_dtx (s : State) : (s.popped .drx).dtx = s.dtx := rfl
@[simp] theorem State.popped_dtx_hrx (s : State) : (s.popped .dtx).hrx = s.hrx := rfl
@[simp] theorem State.popped_dtx_htx (s : State) : (s.popped .dtx).htx = s.htx := rfl
@[simp] theorem State.popped_dtx_drx (s : State) : (s.popped .dtx).drx = s.drx := rfl

/-! ### handOver -/

@[simp] theorem State.handOver_cfg (s : State) (f : TxBuf) (b : Byte) : (s.handOver f b).cfg = s.cfg := by cases f <;> rfl
@[simp] theorem State.handOver_hb (s : State) (f : TxBuf) (b : Byte) : (s.handOver f b).hb = s.hb := by cases f <;> rfl
@[simp] theorem State.handOver_trig (s : State) (f : TxBuf) (b : Byte) : (s.handOver f b).trig = s.trig := by cases f <;> rfl
@[simp] theorem State.handOver_act (s : State) (f : TxBuf) (b : Byte) : (s.handOver f b).act = s.act := by cases f <;> rfl
@[simp] theorem State.handOver_stepsA (s : State) (f : TxBuf) (b : Byte) : (s.handOver f b).stepsA = s.stepsA := by cases f <;> rfl
@[simp] theorem State.handOver_stepsB (s : State) (f : TxBuf) (b : Byte) : (s.handOver f b).stepsB = s.stepsB := by cases f <;> rfl
@[simp] theorem State.handOver_siren (s : State) (f : TxBuf) (b : Byte) : (s.handOver f b).siren = s.siren := by cases f <;> rfl
@[simp] theorem State.handOver_rrst (s : State) (f : TxBuf) (b : Byte) : (s.handOver f b).rrst = s.rrst := by cases f <;> rfl
@[simp] theorem State.handOver_gate (s : State) (f : TxBuf) (b : Byte) : (s.handOver f b).gate = s.gate := by cases f <;> rfl
@[simp] theorem State.handOver_blink (s : State) (f : TxBuf) (b : Byte) : (s.handOver f b).blink = s.blink := by cases f <;> rfl
@[simp] theorem State.handOver_phase (s : State) (f : TxBuf) (b : Byte) : (s.handOver f b).phase = s.phase := by cases f <;> rfl
@[simp] theorem State.handOver_tickPend (s : State) (f : TxBuf) (b : Byte) : (s.handOver f b).tickPend = s.tickPend := by cases f <;> rfl
@[simp] theorem State.handOver_tcnt (s : State) (f : TxBuf) (b : Byte) : (s.handOver f b).tcnt = s.tcnt := by cases f <;> rfl
@[simp] theorem State.handOver_hrx (s : State) (f : TxBuf) (b : Byte) : (s.handOver f b).hrx = s.hrx := by cases f <;> rfl
@[simp] theorem State.handOver_htx (s : State) (f : TxBuf) (b : Byte) : (s.handOver f b).htx = s.htx := by cases f <;> rfl
@[simp] theorem State.handOver_drx (s : State) (f : TxBuf) (b : Byte) : (s.handOver f b).drx = s.drx := by cases f <;> rfl
@[simp] theorem State.handOver_dtx (s : State) (f : TxBuf) (b : Byte) : (s.handOver f b).dtx = s.dtx := by cases f <;> rfl
@[simp] theorem State.handOver_tickO (s : State) (f : TxBuf) (b : Byte) : (s.handOver f b).tickO = s.tickO := by cases f <;> rfl
@[simp] theorem State.handOver_ret (s : State) (f : TxBuf) (b : Byte) : (s.handOver f b).ret = s.ret := by cases f <;> rfl
@[simp] theorem State.handOver_script (s : State) (f : TxBuf) (b : Byte) : (s.handOver f b).script = s.script := by cases f <;> rfl
@[simp] theorem State.handOver_draws (s : State) (f : TxBuf) (b : Byte) : (s.handOver f b).draws = s.draws := by cases f <;> rfl

/-! ### setSiren -/

@[simp] theorem State.setSiren_cfg (s : State) (v : Byte) : (s.setSiren v).cfg = s.cfg := by unfold State.setSiren; split <;> rfl
@[simp] theorem State.setSiren_hb (s : State) (v : Byte) : (s.setSiren v).hb = s.hb := by unfold State.setSiren; split <;> rfl
@[simp] theorem State.setSiren_trig (s : State) (v : Byte) : (s.setSiren v).trig = s.trig := by unfold State.setSiren; split <;> rfl
@[simp] theorem State.setSiren_act (s : State) (v : Byte) : (s.setSiren v).act = s.act := by unfold State.setSiren; split <;> rfl
@[simp] theorem State.setSiren_stepsA (s : State) (v : Byte) : (s.setSiren v).stepsA = s.stepsA := by unfold State.setSiren; split <;> rfl
@[simp] theorem State.setSiren_stepsB (s : State) (v : Byte) : (s.setSiren v).stepsB = s.stepsB := by unfold State.setSiren; split <;> rfl
@[simp] theorem State.setSiren_rrst (s : State) (v : Byte) : (s.setSiren v).rrst = s.rrst := by unfold State.setSiren; split <;> rfl
@[simp] theorem State.setSiren_gate (s : State) (v : Byte) : (s.setSiren v).gate = s.gate := by unfold State.setSiren; split <;> rfl
@[simp] theorem State.setSiren_blink (s : State) (v : Byte) : (s.setSiren v).blink = s.blink := by unfold State.setSiren; split <;> rfl
@[simp] theorem State.setSiren_phase (s : State) (v : Byte) : (s.setSiren v).phase = s.phase := by unfold State.setSiren; split <;> rfl
@[simp] theorem State.setSiren_tickPend (s : State) (v : Byte) : (s.setSiren v).tickPend = s.tickPend := by unfold State.setSiren; split <;> rfl
@[simp] theorem State.setSiren_tcnt (s : State) (v : Byte) : (s.setSiren v).tcnt = s.tcnt := by unfold State.setSiren; split <;> rfl
@[simp] theorem State.setSiren_hrx (s : State) (v : Byte) : (s.setSiren v).hrx = s.hrx := by unfold State.setSiren; split <;> rfl
@[simp] theorem State.setSiren_htx (s : State) (v : Byte) : (s.setSiren v).htx = s.htx := by unfold State.setSiren; split <;> rfl
@[simp] theorem State.setSiren_drx (s : State) (v : Byte) : (s.setSiren v).drx = s.drx := by unfold State.setSiren; split <;> rfl
@[simp] theorem State.setSiren_dtx (s : State) (v : Byte) : (s.setSiren v).dtx = s.dtx := by unfold State.setSiren; split <;> rfl
@[simp] theorem State.setSiren_htxOut (s : State) (v : Byte) : (s.setSiren v).htxOut = s.htxOut := by unfold State.setSiren; split <;> rfl
@[simp] theorem State.setSiren_dtxOut (s : State) (v : Byte) : (s.setSiren v).dtxOut = s.dtxOut := by unfold State.setSiren; split <;> rfl
@[simp] theorem State.setSiren_tickO (s : State) (v : Byte) : (s.setSiren v).tickO = s.tickO := by unfold State.setSiren; split <;> rfl
@[simp] theorem State.setSiren_ret (s : State) (v : Byte) : (s.setSiren v).ret = s.ret := by unfold State.setSiren; split <;> rfl
@[simp] theorem State.setSiren_script (s : State) (v : Byte) : (s.setSiren v).script = s.script := by unfold State.setSiren; split <;> rfl
@[simp] theorem State.setSiren_draws (s : State) (v : Byte) : (s.setSiren v).draws = s.draws := by unfold State.setSiren; split <;> rfl

/-! ### setRrst -/

@[simp] theorem State.setRrst_cfg (s : State) (v : Byte) : (s.setRrst v).cfg = s.cfg := by unfold State.setRrst; split <;> rfl
@[simp] theorem State.setRrst_hb (s : State) (v : Byte) : (s.setRrst v).hb = s.hb := by unfold State.setRrst; split <;> rfl
@[simp] theorem State.setRrst_trig (s : State) (v : Byte) : (s.setRrst v).trig = s.trig := by unfold State.setRrst; split <;> rfl
@[simp] theorem State.setRrst_act (s : State) (v : Byte) : (s.setRrst v).act = s.act := by unfold State.setRrst; split <;> rfl
@[simp] theorem State.setRrst_stepsA (s : State) (v : Byte) : (s.setRrst v).stepsA = s.stepsA := by unfold State.setRrst; split <;> rfl
@[simp] theorem State.setRrst_stepsB (s : State) (v : Byte) : (s.setRrst v).stepsB = s.stepsB := by unfold State.setRrst; split <;> rfl
@[simp] theorem State.setRrst_siren (s : State) (v : Byte) : (s.setRrst v).siren = s.siren := by unfold State.setRrst; split <;> rfl
@[simp] theorem State.setRrst_gate (s : State) (v : Byte) : (s.setRrst v).gate = s.gate := by unfold State.setRrst; split <;> rfl
@[simp] theorem State.setRrst_blink (s : State) (v : Byte) : (s.setRrst v).blink = s.blink := by unfold State.setRrst; split <;> rfl
@[simp] theorem State.setRrst_phase (s : State) (v : Byte) : (s.setRrst v).phase = s.phase := by unfold State.setRrst; split <;> rfl
@[simp] theorem State.setRrst_tickPend (s : State) (v : Byte) : (s.setRrst v).tickPend = s.tickPend := by unfold State.setRrst; split <;> rfl
@[simp] theorem State.setRrst_tcnt (s : State) (v : Byte) : (s.setRrst v).tcnt = s.tcnt := by unfold State.setRrst; split <;> rfl
@[simp] theorem State.setRrst_hrx (s : State) (v : Byte) : (s.setRrst v).hrx = s.hrx := by unfold State.setRrst; split <;> rfl
@[simp] theorem State.setRrst_htx (s : State) (v : Byte) : (s.setRrst v).htx = s.htx := by unfold State.setRrst; split <;> rfl
@[simp] theorem State.setRrst_drx (s : State) (v : Byte) : (s.setRrst v).drx = s.drx := by unfold State.setRrst; split <;> rfl
@[simp] theorem State.setRrst_dtx (s : State) (v : Byte) : (s.setRrst v).dtx = s.dtx := by unfold State.setRrst; split <;> rfl
@[simp] theorem State.setRrst_htxOut (s : State) (v : Byte) : (s.setRrst v).htxOut = s.htxOut := by unfold State.setRrst; split <;> rfl
@[simp] theorem State.setRrst_dtxOut (s : State) (v : Byte) : (s.setRrst v).dtxOut = s.dtxOut := by unfold State.setRrst; split <;> rfl
@[simp] theorem State.setRrst_tickO (s : State) (v : Byte) : (s.setRrst v).tickO = s.tickO := by unfold State.setRrst; split <;> rfl
@[simp] theorem State.setRrst_ret (s : State) (v : Byte) : (s.setRrst v).ret = s.ret := by unfold State.setRrst; split <;> rfl
@[simp] theorem State.setRrst_script (s : State) (v : Byte) : (s.setRrst v).script = s.script := by unfold State.setRrst; split <;> rfl
@[simp] theorem State.setRrst_draws (s : State) (v : Byte) : (s.setRrst v).draws = s.draws := by unfold State.setRrst; split <;> rfl

/-! ### useCounter -/

@[simp] theorem State.useCounter_cfg (s : State) (c : Command) : (s.useCounter c).cfg = s.cfg := by cases c <;> simp [State.useCounter]
@[simp] theorem State.useCounter_hb (s : State) (c : Command) : (s.useCounter c).hb = s.hb := by cases c <;> simp [State.useCounter]
@[simp] theorem State.useCounter_trig (s : State) (c : Command) : (s.useCounter c).trig = s.trig := by cases c <;> simp [State.useCounter]
@[simp] theorem State.useCounter_act (s : State) (c : Command) : (s.useCounter c).act = s.act := by cases c <;> simp [State.useCounter]
@[simp] theorem State.useCounter_siren (s : State) (c : Command) : (s.useCounter c).siren = s.siren := by cases c <;> simp [State.useCounter]
@[simp] theorem State.useCounter_gate (s : State) (c : Command) : (s.useCounter c).gate = s.gate := by cases c <;> simp [State.useCounter]
@[simp] theorem State.useCounter_blink (s : State) (c : Command) : (s.useCounter c).blink = s.blink := by cases c <;> simp [State.useCounter]
@[simp] theorem State.useCounter_phase (s : State) (c : Command) : (s.useCounter c).phase = s.phase := by cases c <;> simp [State.useCounter]
@[simp] theorem State.useCounter_tickPend (s : State) (c : Command) : (s.useCounter c).tickPend = s.tickPend := by cases c <;> simp [State.useCounter]
@[simp] theorem State.useCounter_tcnt (s : State) (c : Command) : (s.useCounter c).tcnt = s.tcnt := by cases c <;> simp [State.useCounter]
@[simp] theorem State.useCounter_hrx (s : State) (c : Command) : (s.useCounter c).hrx = s.hrx := by cases c <;> simp [State.useCounter]
@[simp] theorem State.useCounter_htx (s : State) (c : Command) : (s.useCounter c).htx = s.htx := by cases c <;> simp [State.useCounter]
@[simp] theorem State.useCounter_drx (s : State) (c : Command) : (s.useCounter c).drx = s.drx := by cases c <;> simp [State.useCounter]
@[simp] theorem State.useCounter_dtx (s : State) (c : Command) : (s.useCounter c).dtx = s.dtx := by cases c <;> simp [State.useCounter]
@[simp] theorem State.useCounter_htxOut (s : State) (c : Command) : (s.useCounter c).htxOut = s.htxOut := by cases c <;> simp [State.useCounter]
@[simp] theorem State.useCounter_dtxOut (s : State) (c : Command) : (s.useCounter c).dtxOut = s.dtxOut := by cases c <;> simp [State.useCounter]
@[simp] theorem State.useCounter_tickO (s : State) (c : Command) : (s.useCounter c).tickO = s.tickO := by cases c <;> simp [State.useCounter]
@[simp] theorem State.useCounter_ret (s : State) (c : Command) : (s.useCounter c).ret = s.ret := by cases c <;> simp [State.useCounter]
@[simp] theorem State.useCounter_script (s : State) (c : Command) : (s.useCounter c).script = s.script := by cases c <;> simp [State.useCounter]
@[simp] theorem State.useCounter_draws (s : State) (c : Command) : (s.useCounter c).draws = s.draws := by cases c <;> simp [State.useCounter]

/-! ### quiet -/

@[simp] theorem State.quiet_cfg (s : State) : (s.quiet).cfg = s.cfg := rfl
@[simp] theorem State.quiet_hb (s : State) : (s.quiet).hb = s.hb := rfl
@[simp] theorem State.quiet_trig (s : State) : (s.quiet).trig = s.trig := rfl
@[simp] theorem State.quiet_act (s : State) : (s.quiet).act = s.act := rfl
@[simp] theorem State.quiet_stepsA (s : State) : (s.quiet).stepsA = s.stepsA := rfl
@[simp] theorem State.quiet_stepsB (s : State) : (s.quiet).stepsB = s.stepsB := rfl
@[simp] theorem State.quiet_siren (s : State) : (s.quiet).siren = s.siren := rfl
@[simp] theorem State.quiet_rrst (s : State) : (s.quiet).rrst = s.rrst := rfl
@[simp] theorem State.quiet_gate (s : State) : (s.quiet).gate = s.gate := rfl
@[simp] theorem State.quiet_blink (s : State) : (s.quiet).blink = s.blink := rfl
@[simp] theorem State.quiet_phase (s : State) : (s.quiet).phase = s.phase := rfl
@[simp] theorem State.quiet_tickPend (s : State) : (s.quiet).tickPend = s.tickPend := rfl
@[simp] theorem State.quiet_tcnt (s : State) : (s.quiet).tcnt = s.tcnt := rfl
@[simp] theorem State.quiet_hrx (s : State) : (s.quiet).hrx = s.hrx := rfl
@[simp] theorem State.quiet_htx (s : State) : (s.quiet).htx = s.htx := rfl
@[simp] theorem State.quiet_drx (s : State) : (s.quiet).drx = s.drx := rfl
@[simp] theorem State.quiet_dtx (s : State) : (s.quiet).dtx = s.dtx := rfl
@[simp] theorem State.quiet_script (s : State) : (s.quiet).script = s.script := rfl
@[simp] theorem State.quiet_draws (s : State) : (s.quiet).draws = s.draws := rfl

/-! ### raiseTick and clearTick -/

@[simp] theorem State.raiseTick_cfg (s : State) : (s.raiseTick).cfg = s.cfg := rfl
@[simp] theorem State.raiseTick_hb (s : State) : (s.raiseTick).hb = s.hb := rfl
@[simp] theorem State.raiseTick_trig (s : State) : (s.raiseTick).trig = s.trig := rfl
@[simp] theorem State.raiseTick_act (s : State) : (s.raiseTick).act = s.act := rfl
@[simp] theorem State.raiseTick_stepsA (s : State) : (s.raiseTick).stepsA = s.stepsA := rfl
@[simp] theorem State.raiseTick_stepsB (s : State) : (s.raiseTick).stepsB = s.stepsB := rfl
@[simp] theorem State.raiseTick_siren (s : State) : (s.raiseTick).siren = s.siren := rfl
@[simp] theorem State.raiseTick_rrst (s : State) : (s.raiseTick).rrst = s.rrst := rfl
@[simp] theorem State.raiseTick_gate (s : State) : (s.raiseTick).gate = s.gate := rfl
@[simp] theorem State.raiseTick_blink (s : State) : (s.raiseTick).blink = s.blink := rfl
@[simp] theorem State.raiseTick_phase (s : State) : (s.raiseTick).phase = s.phase := rfl
@[simp] theorem State.raiseTick_tcnt (s : State) : (s.raiseTick).tcnt = s.tcnt := rfl
@[simp] theorem State.raiseTick_hrx (s : State) : (s.raiseTick).hrx = s.hrx := rfl
@[simp] theorem State.raiseTick_htx (s : State) : (s.raiseTick).htx = s.htx := rfl
@[simp] theorem State.raiseTick_drx (s : State) : (s.raiseTick).drx = s.drx := rfl
@[simp] theorem State.raiseTick_dtx (s : State) : (s.raiseTick).dtx = s.dtx := rfl
@[simp] theorem State.raiseTick_htxOut (s : State) : (s.raiseTick).htxOut = s.htxOut := rfl
@[simp] theorem State.raiseTick_dtxOut (s : State) : (s.raiseTick).dtxOut = s.dtxOut := rfl
@[simp] theorem State.raiseTick_tickO (s : State) : (s.raiseTick).tickO = s.tickO := rfl
@[simp] theorem State.raiseTick_ret (s : State) : (s.raiseTick).ret = s.ret := rfl
@[simp] theorem State.raiseTick_script (s : State) : (s.raiseTick).script = s.script := rfl
@[simp] theorem State.raiseTick_draws (s : State) : (s.raiseTick).draws = s.draws := rfl

@[simp] theorem State.clearTick_cfg (s : State) : (s.clearTick).cfg = s.cfg := rfl
@[simp] theorem State.clearTick_hb (s : State) : (s.clearTick).hb = s.hb := rfl
@[simp] theorem State.clearTick_trig (s : State) : (s.clearTick).trig = s.trig := rfl
@[simp] theorem State.clearTick_act (s : State) : (s.clearTick).act = s.act := rfl
@[simp] theorem State.clearTick_stepsA (s : State) : (s.clearTick).stepsA = s.stepsA := rfl
@[simp] theorem State.clearTick_stepsB (s : State) : (s.clearTick).stepsB = s.stepsB := rfl
@[simp] theorem State.clearTick_siren (s : State) : (s.clearTick).siren = s.siren := rfl
@[simp] theorem State.clearTick_rrst (s : State) : (s.clearTick).rrst = s.rrst := rfl
@[simp] theorem State.clearTick_gate (s : State) : (s.clearTick).gate = s.gate := rfl
@[simp] theorem State.clearTick_blink (s : State) : (s.clearTick).blink = s.blink := rfl
@[simp] theorem State.clearTick_phase (s : State) : (s.clearTick).phase = s.phase := rfl
@[simp] theorem State.clearTick_tcnt (s : State) : (s.clearTick).tcnt = s.tcnt := rfl
@[simp] theorem State.clearTick_hrx (s : State) : (s.clearTick).hrx = s.hrx := rfl
@[simp] theorem State.clearTick_htx (s : State) : (s.clearTick).htx = s.htx := rfl
@[simp] theorem State.clearTick_drx (s : State) : (s.clearTick).drx = s.drx := rfl
@[simp] theorem State.clearTick_dtx (s : State) : (s.clearTick).dtx = s.dtx := rfl
@[simp] theorem State.clearTick_htxOut (s : State) : (s.clearTick).htxOut = s.htxOut := rfl
@[simp] theorem State.clearTick_dtxOut (s : State) : (s.clearTick).dtxOut = s.dtxOut := rfl
@[simp] theorem State.clearTick_tickO (s : State) : (s.clearTick).tickO = s.tickO := rfl
@[simp] theorem State.clearTick_ret (s : State) : (s.clearTick).ret = s.ret := rfl
@[simp] theorem State.clearTick_script (s : State) : (s.clearTick).script = s.script := rfl
@[simp] theorem State.clearTick_draws (s : State) : (s.clearTick).draws = s.draws := rfl

@[simp] theorem State.raiseTick_tickPend (s : State) : s.raiseTick.tickPend = true := rfl
@[simp] theorem State.clearTick_tickPend (s : State) : s.clearTick.tickPend = false := rfl
@[simp] theorem State.handOver_htxOut (s : State) (b : Byte) : (s.handOver .htx b).htxOut = some b := rfl
@[simp] theorem State.handOver_dtxOut (s : State) (b : Byte) : (s.handOver .dtx b).dtxOut = some b := rfl
@[simp] theorem State.setSiren_siren (s : State) (v : Byte) :
    (s.setSiren v).siren = if s.cfg.hasSiren then v else s.siren := by unfold State.setSiren; split <;> rfl
@[simp] theorem State.setRrst_rrst (s : State) (v : Byte) :
    (s.setRrst v).rrst = if s.cfg.hasRelayReset then v else s.rrst := by unfold State.setRrst; split <;> rfl

end Sys2Proof.Machine
end

