-- ==== Sys2Proof/Laws/Ops.lean ====
section
/-! SUPPORT. What each shared ring-buffer operation can do, said once: the lemmas to cite instead of unfolding `push`,
`popped`, `front`, and that each keeps the ring buffers' invariant. -/

namespace Sys2Proof.Machine

/-! ### Cursor arithmetic -/

/-- The distance between two cursors, without a remainder. -/
theorem ring_dist {n rd wr : Nat} (hr : rd < n) (hw : wr < n) :
    (wr + (n - rd)) % n = if rd ≤ wr then wr - rd else wr + n - rd := by
  split
  · rw [show wr + (n - rd) = (wr - rd) + n by omega, Nat.add_mod_right, Nat.mod_eq_of_lt (by omega)]
  · rw [show wr + (n - rd) = wr + n - rd by omega, Nat.mod_eq_of_lt (by omega)]

/-- A slot at a distance below the buffer's size, without a remainder. -/
theorem ring_add {n rd j : Nat} (hr : rd < n) (hj : j ≤ n) :
    (rd + j) % n = if rd + j < n then rd + j else rd + j - n := by
  split
  · exact Nat.mod_eq_of_lt ‹_›
  · rw [Nat.mod_eq_sub_mod (by omega), Nat.mod_eq_of_lt (by omega)]

theorem Config.size_pos (c : Config) (f : BufId) : 0 < c.size f := Nat.two_pow_pos _

theorem Config.two_le_size {c : Config} (h : c.wf = true) (f : BufId) : 2 ≤ c.size f := by
  have hk : 1 ≤ c.k f := by
    simp only [Config.wf, Bool.and_eq_true, decide_eq_true_eq] at h
    cases f <;> simp only [Config.k] <;> omega
  calc 2 = 2 ^ 1 := rfl
    _ ≤ 2 ^ c.k f := Nat.pow_le_pow_right (by decide) hk

/-! ### push and pop on one ring buffer -/

/-- A push keeps the ring buffer's invariant (a push that closed the gap would leave the cursors equal, an empty buffer;
the operations push only where there is room). -/
theorem RingBuf.Inv.push {n : Nat} {r : RingBuf} (h : RingBuf.Inv n r) (b : Byte) :
    RingBuf.Inv n { r with mem := Memory.write r.mem r.wr b, wr := (r.wr + 1) % n } := by
  have hr := h.rd_lt
  have hw := h.wr_lt
  have hn : 0 < n := by omega
  refine ⟨hr, Nat.mod_lt _ hn, Memory.wf_write h.mem_wf _ _, fun c hc => ?_, fun j hj => ?_⟩
  · rcases Memory.mem_write hc with rfl | hc
    · exact hw
    · exact h.mem_in c hc
  · by_cases hs : (r.rd + j) % n = r.wr
    · simp [hs]
    · have hlive := h.live_written j
      simp only [Memory.read_write_ne _ _ hs]
      apply hlive
      have hw' : (r.wr + 1) % n < n := Nat.mod_lt _ hn
      simp only [ring_dist hr hw'] at hj
      rw [ring_dist hr hw]
      have hjn : j ≤ n := by split at hj <;> omega
      rw [ring_add hr hjn] at hs
      rw [ring_add hw (by omega : 1 ≤ n)] at hj
      split at hj <;> split at hj <;> split at hs <;> split <;> omega

/-- A pop keeps the ring buffer's invariant, where the buffer is not empty. -/
theorem RingBuf.Inv.pop {n : Nat} {r : RingBuf} (h : RingBuf.Inv n r) (hc : r.rd ≠ r.wr) :
    RingBuf.Inv n { r with rd := (r.rd + 1) % n } := by
  have hr := h.rd_lt
  have hw := h.wr_lt
  have hn : 0 < n := by omega
  have hr' : (r.rd + 1) % n < n := Nat.mod_lt _ hn
  refine ⟨hr', hw, h.mem_wf, h.mem_in, fun j hj => ?_⟩
  have hlive := h.live_written (j + 1)
  rw [ring_dist hr hw] at hlive
  simp only [ring_dist hr' hw] at hj
  rw [show r.rd + (j + 1) = (r.rd + 1) + j by omega] at hlive
  rw [show ((r.rd + 1) % n + j) % n = ((r.rd + 1) + j) % n from Nat.mod_add_mod _ _ _]
  apply hlive
  rw [ring_add hr (by omega : 1 ≤ n)] at hj
  split at hj <;> split at hj <;> split <;> omega

/-- The slot at the read cursor of a buffer that is not empty has been written (R46). -/
theorem RingBuf.Inv.front_written {n : Nat} {r : RingBuf} (h : RingBuf.Inv n r) (hc : r.rd ≠ r.wr) :
    ∃ b, Memory.read r.mem r.rd = some b := by
  have hr := h.rd_lt
  have hw := h.wr_lt
  have := h.live_written 0 (by rw [ring_dist hr hw]; split <;> omega)
  rw [Nat.add_zero, Nat.mod_eq_of_lt hr] at this
  exact Option.isSome_iff_exists.mp this

/-- The empty buffer that reset leaves has the invariant. -/
theorem RingBuf.Inv.of_empty {n : Nat} (hn : 0 < n) : RingBuf.Inv n RingBuf.empty := by
  refine ⟨hn, hn, by simp [RingBuf.empty, Memory.wf], by simp [RingBuf.empty], fun j hj => ?_⟩
  simp [RingBuf.empty] at hj

/-! ### push and popped on the machine -/

theorem State.bufCanRead_iff (s : State) (f : BufId) : s.bufCanRead f = true ↔ (s.buf f).rd ≠ (s.buf f).wr := by
  simp [State.bufCanRead]

theorem State.bufFull_iff (s : State) (f : BufId) :
    s.bufFull f = true ↔ ((s.buf f).wr + 1) % s.cfg.size f = (s.buf f).rd := by
  simp [State.bufFull]

/-- All that a push does. -/
theorem State.push_spec (s : State) (f : BufId) (b : Byte) : s.PushedOnly (s.push f b) f b := by
  refine ⟨⟨?_, ?_, ?_, ?_⟩, ?_⟩ <;> simp only [State.push, State.buf_setBuf_same]
  · exact Memory.read_write_same _ _ _
  · exact fun i hi => Memory.read_write_ne _ _ hi

/-- The pop of a slot that has been written: the byte read there, no free value drawn. -/
theorem State.pop_written {s : State} {f : BufId} {b : Byte} (h : Memory.read (s.buf f).mem (s.buf f).rd = some b) :
    s.front f = b ∧ s.popped f = s.setBuf f { s.buf f with rd := ((s.buf f).rd + 1) % s.cfg.size f } := by
  refine ⟨by simp [State.front, h], ?_⟩
  cases f <;> simp_all [State.popped, State.frontDraws]

/-- The pop of a slot that nothing has written: a free byte, one free value drawn. -/
theorem State.pop_unwritten {s : State} {f : BufId} (h : Memory.read (s.buf f).mem (s.buf f).rd = none) :
    s.front f = Config.freeByte s.draws
      ∧ s.popped f
        = { s.setBuf f { s.buf f with rd := ((s.buf f).rd + 1) % s.cfg.size f } with draws := s.draws + 1 } := by
  refine ⟨by simp [State.front, h], ?_⟩
  cases f <;> simp_all [State.popped, State.frontDraws]

theorem State.buf_push_same (s : State) (f : BufId) (b : Byte) :
    (s.push f b).buf f = { s.buf f with
      mem := Memory.write (s.buf f).mem (s.buf f).wr b, wr := ((s.buf f).wr + 1) % s.cfg.size f } := by
  simp [State.push]

theorem State.buf_push_ne (s : State) {f g : BufId} (b : Byte) (h : g ≠ f) : (s.push f b).buf g = s.buf g := by
  simp [State.push, State.buf_setBuf_ne _ _ h]

theorem State.buf_popped_same (s : State) (f : BufId) :
    (s.popped f).buf f = { s.buf f with rd := ((s.buf f).rd + 1) % s.cfg.size f } := by
  cases f <;> rfl

theorem State.buf_popped_ne (s : State) {f g : BufId} (h : g ≠ f) : (s.popped f).buf g = s.buf g := by
  cases f <;> cases g <;> first | rfl | exact absurd rfl h

/-- A push keeps every ring buffer's invariant. -/
theorem State.buf_inv_push {s : State} {f : BufId} (h : ∀ g, RingBuf.Inv (s.cfg.size g) (s.buf g))
    (b : Byte) (g : BufId) :
    RingBuf.Inv ((s.push f b).cfg.size g) ((s.push f b).buf g) := by
  rw [State.push_cfg]
  by_cases hg : g = f
  · subst hg
    rw [State.buf_push_same]
    exact (h g).push b
  · rw [State.buf_push_ne _ _ hg]
    exact h g

/-- A pop keeps every ring buffer's invariant, where the buffer is not empty. -/
theorem State.buf_inv_popped {s : State} {f : BufId} (h : ∀ g, RingBuf.Inv (s.cfg.size g) (s.buf g))
    (hc : s.bufCanRead f = true) (g : BufId) :
    RingBuf.Inv ((s.popped f).cfg.size g) ((s.popped f).buf g) := by
  rw [State.popped_cfg]
  by_cases hg : g = f
  · subst hg
    rw [State.buf_popped_same]
    exact (h g).pop ((State.bufCanRead_iff s g).mp hc)
  · rw [State.buf_popped_ne _ hg]
    exact h g

end Sys2Proof.Machine
end

