-- ==== Sys2Proof/Laws/Exec.lean ====
section
/-! SUPPORT. `exec` on each constructor, as one equation over the shared operations, and what a step is. -/

namespace Sys2Proof.Machine

theorem exec_hDisable (s : State) : exec .hDisable s = .next s.disable := rfl
theorem exec_hArm (v : Byte) (s : State) : exec (.hArm v) s = .next (s.arm v) := rfl
theorem exec_hRsv (v : Byte) (s : State) : exec (.hRsv v) s = .next s := rfl
theorem exec_hSiren (s : State) : exec .hSiren s = .next s.armSiren := rfl
theorem exec_dClosedA (s : State) : exec .dClosedA s = .next { s with stepsA := 0#8 } := rfl
theorem exec_dClosedB (s : State) : exec .dClosedB s = .next { s with stepsB := 0#8 } := rfl
theorem exec_dClosedBoth (s : State) : exec .dClosedBoth s = .next { s with stepsA := 0#8, stepsB := 0#8 } := rfl
theorem exec_dOther (c : Byte) (s : State) : exec (.dOther c) s = .next s := rfl
theorem exec_cStepA (s : State) : exec .cStepA s = .next (s.tickSending .stepA) := rfl
theorem exec_cStepB (s : State) : exec .cStepB s = .next (s.tickSending .stepB) := rfl
theorem exec_cReset (s : State) : exec .cReset s = .next (s.tickSending .relayReset) := rfl
theorem exec_sDisabled (s : State) : exec .sDisabled s = .next (s.tickReporting 0x00#8) := rfl
theorem exec_sCount (v : Byte) (s : State) : exec (.sCount v) s = .next (s.tickReporting v) := rfl
theorem exec_sClosing (s : State) : exec .sClosing s = .next (s.tickReporting 0xFE#8) := rfl
theorem exec_sTriggered (s : State) : exec .sTriggered s = .next (s.tickReporting 0xFF#8) := rfl
theorem exec_clk (s : State) :
    exec .clk s
      = .next (if s.tcnt = s.cfg.tickDiv - 1 then s.terminalCount else { s with tcnt := s.tcnt + 1, tickO := false }) :=
  rfl
theorem exec_pulse (s : State) : exec .pulse s = .next s.raiseTick := rfl
theorem exec_tick (s : State) : exec .tick s = .next s.tickRun := rfl
theorem exec_rxArrive (f : RxBuf) (b : Byte) (s : State) :
    exec (.rxArrive f b) s = .next (if s.bufFull f.id then s else s.push f.id b) := rfl
theorem exec_canRead (f : RxBuf) (s : State) :
    exec (.canRead f) s = .next { s with ret := some (.flag (s.bufCanRead f.id)) } := rfl
theorem exec_read (f : RxBuf) (s : State) :
    exec (.read f) s
      = .next (if s.bufCanRead f.id then { s.popped f.id with ret := some (.byte (s.front f.id)) } else s) := rfl
theorem exec_write (f : TxBuf) (b : Byte) (s : State) :
    exec (.write f b) s = .next (if s.bufFull f.id then s else s.push f.id b) := rfl
theorem exec_txDrain (f : TxBuf) (s : State) :
    exec (.txDrain f) s
      = .next (if s.bufCanRead f.id then (s.popped f.id).handOver f (s.front f.id) else s) := rfl
theorem exec_hostPoll (s : State) :
    exec .hostPoll s
      = .next (if s.bufCanRead .hrx then (s.popped .hrx).onHostByte (s.front .hrx) else s) := rfl
theorem exec_domePoll (s : State) :
    exec .domePoll s
      = .next (if s.bufCanRead .drx then (s.popped .drx).onDomeByte (s.front .drx) else s) := rfl
theorem exec_status (s : State) : exec .status s = .next { s with ret := some (.byte s.statusNow) } := rfl
theorem exec_reset (s : State) :
    exec .reset s = .next { State.resetWith s.cfg with script := s.script, draws := s.draws } := rfl

/-- What a step that answers a next state has done: taken a line that decodes, and performed its operation. -/
theorem step_next {s t : State} (h : step s = .next t) :
    ∃ i, decode s.cfg s.nextStimulus = .instr i ∧ exec i s.afterFetch = .next t := by
  unfold step State.fetch at h
  cases hd : decode s.cfg s.nextStimulus with
  | instr i => exact ⟨i, rfl, by simpa [hd] using h⟩
  | rejected e => simp [hd] at h

/-- Taking a line changes nothing but the script, the one-cycle outputs, the returned value and the free draws. -/
theorem State.afterFetch_spec (s : State) :
    s.afterFetch
      = { s with
          htxOut := none, dtxOut := none, tickO := false, ret := none
          script := s.afterFetch.script, draws := s.afterFetch.draws } := by
  unfold State.afterFetch State.quiet
  cases s.script <;> rfl

end Sys2Proof.Machine
end

