-- ==== Sys2Proof/Laws/Tick.lean ====
section
/-! SUPPORT. The tick, field by field, and the choice of its command. -/

namespace Sys2Proof.Machine

namespace State

@[simp] theorem tickCommand_none (s : State) : s.tickCommand none = s := rfl
@[simp] theorem tickCommand_some (s : State) (c : Command) : s.tickCommand (some c) = s.push .dtx c.code := rfl

/-- Sending a command changes no field but DTX. -/
theorem tickCommand_spec (s : State) (o : Option Command) : s.tickCommand o = { s with dtx := (s.tickCommand o).dtx } := by
  cases o <;> rfl

/-- The variables after a tick, as one record update. -/
theorem tickVars_eq (s : State) :
    s.tickVars
      = { s with
          hb := s.hbNext, trig := s.trigNext, act := s.actNext, stepsA := s.stepsANext, stepsB := s.stepsBNext
          gate := s.sel.isSome, blink := !s.blink, phase := s.phaseNext
          rrst := if s.cfg.hasRelayReset then s.rrstNext else s.rrst
          siren := if s.cfg.hasSiren then s.sirenNext else s.siren } := by
  unfold tickVars setSiren setRrst
  cases h1 : s.cfg.hasRelayReset <;> cases h2 : s.cfg.hasSiren <;> simp [h2]

/-- The whole tick, as one record update: DTX with the command, if there is one, and HTX with the report. -/
theorem tickNext_eq (s : State) :
    s.tickNext
      = { s with
          hb := s.hbNext, trig := s.trigNext, act := s.actNext, stepsA := s.stepsANext, stepsB := s.stepsBNext
          gate := s.sel.isSome, blink := !s.blink, phase := s.phaseNext
          rrst := if s.cfg.hasRelayReset then s.rrstNext else s.rrst
          siren := if s.cfg.hasSiren then s.sirenNext else s.siren
          dtx := (s.tickCommand s.sel).dtx
          htx := (s.push .htx s.tickReport).htx
          tickPend := false } := by
  unfold tickNext
  rw [tickVars_eq]
  cases s.sel <;> rfl

/-- Nothing is held exactly where HTX has room and, for a command, DTX too (R120). -/
theorem tickHeld_iff (s : State) :
    s.tickHeld = false ↔ s.bufFull .htx = false ∧ (s.sel = none ∨ s.bufFull .dtx = false) := by
  unfold tickHeld
  cases s.sel <;> simp

/-- A command is selected only in a close sequence (R126). -/
theorem act_of_sel {s : State} {c : Command} (h : s.sel = some c) : s.act = true := by
  unfold sel at h
  cases ha : s.act
  · simp [ha] at h
  · rfl

/-- What the selection says of the counters (R121). -/
theorem sel_cases (s : State) :
    (s.sel = none ∧ (s.act = false ∨ (s.rrstCount = 0#8 ∧ s.stepsA = 0#8 ∧ s.stepsB = 0#8)))
      ∨ (s.sel = some .relayReset ∧ s.act = true ∧ s.rrstCount ≠ 0#8)
      ∨ (s.sel = some .stepA ∧ s.act = true ∧ s.rrstCount = 0#8 ∧ s.stepsA ≠ 0#8)
      ∨ (s.sel = some .stepB ∧ s.act = true ∧ s.rrstCount = 0#8 ∧ s.stepsA = 0#8 ∧ s.stepsB ≠ 0#8) := by
  unfold sel
  cases ha : s.act
  · simp
  · by_cases h1 : s.rrstCount = 0#8 <;> by_cases h2 : s.stepsA = 0#8 <;> by_cases h3 : s.stepsB = 0#8 <;> simp [*]

end State

/-- A tick that is pending and not held is performed. -/
theorem exec_tick_run {s : State} (hp : s.tickPend = true) (hh : s.bufFull .htx = false)
    (hd : s.sel = none ∨ s.bufFull .dtx = false) : exec .tick s = .next s.tickNext := by
  rw [exec_tick, State.tickRun, if_pos ⟨hp, (State.tickHeld_iff s).mpr ⟨hh, hd⟩⟩]

end Sys2Proof.Machine
end

