-- ==== Sys2Proof/Laws/Controller.lean ====
section
/-! SUPPORT. The controller's shared operations, each said once: what a command, a response, a sent command and a
report can change, the arithmetic of a byte counter, the canonical form of every storage, and which updates leave the
invariants alone. -/

namespace Sys2Proof.Machine

/-! ### A byte counter -/

theorem byte_toNat_ne_zero {b : Byte} (h : b ≠ 0#8) : b.toNat ≠ 0 :=
  fun e => h (BitVec.eq_of_toNat_eq (by simpa using e))

theorem byte_sub_one {b : Byte} (h : b ≠ 0#8) : (b - 1#8).toNat = b.toNat - 1 := by
  have h0 := byte_toNat_ne_zero h
  have hlt := b.isLt
  rw [BitVec.toNat_sub]
  simp
  omega

theorem byte_sub_one_eq_zero {b : Byte} : b - 1#8 = 0#8 ↔ b = 1#8 := by
  constructor <;> intro h
  · bv_omega
  · subst h; rfl

theorem ne_sentinel_of_le {b : Byte} (h : b.toNat ≤ 240) : b ≠ sentinel := by
  rintro rfl
  simp [sentinel] at h

/-! ### Commands and responses -/

/-- What a host byte can be, by its value (R61). -/
theorem hostCommand_cases (c : Config) (v : Byte) :
    (v = 0#8 ∧ hostCommand c v = .disable)
      ∨ (v ≠ 0#8 ∧ v.toNat ≤ 240 ∧ hostCommand c v = .arm v)
      ∨ (v = 255#8 ∧ c.hasSiren = true ∧ hostCommand c v = .siren)
      ∨ (240 < v.toNat ∧ (v = 255#8 → c.hasSiren = false) ∧ hostCommand c v = .reserved v) := by
  unfold hostCommand
  by_cases h0 : v = 0#8
  · simp [h0]
  · by_cases h1 : v.toNat ≤ 240
    · simp [h0, h1]
    · by_cases h2 : v = 255#8 <;> cases h3 : c.hasSiren <;> simp [h0, h1, h2] <;> omega

theorem State.setSiren_eq (s : State) (v : Byte) :
    s.setSiren v = { s with siren := if s.cfg.hasSiren then v else s.siren } := by
  unfold State.setSiren
  split <;> simp_all

theorem State.setRrst_eq (s : State) (v : Byte) :
    s.setRrst v = { s with rrst := if s.cfg.hasRelayReset then v else s.rrst } := by
  unfold State.setRrst
  split <;> simp_all

/-- A host command writes only the counter, the flags and the siren counter (R110 to R113). -/
theorem State.obeyHost_spec (s : State) (c : HostCommand) :
    s.obeyHost c
      = { s with
          hb := (s.obeyHost c).hb, trig := (s.obeyHost c).trig, act := (s.obeyHost c).act
          siren := (s.obeyHost c).siren } := by
  cases c with
  | disable => rfl
  | arm v => simp only [State.obeyHost, State.arm]; split <;> rfl
  | siren => simp only [State.obeyHost, State.armSiren, State.setSiren]; split <;> rfl
  | reserved v => rfl

/-- A dome response writes only the step counters (R140 to R143). -/
theorem State.obeyDome_spec (s : State) (r : DomeResponse) :
    s.obeyDome r = { s with stepsA := (s.obeyDome r).stepsA, stepsB := (s.obeyDome r).stepsB } := by
  cases r <;> rfl

/-- A dome response leaves a step counter or zeroes it. -/
theorem State.obeyDome_steps (s : State) (r : DomeResponse) :
    ((s.obeyDome r).stepsA = s.stepsA ∨ (s.obeyDome r).stepsA = 0#8)
      ∧ ((s.obeyDome r).stepsB = s.stepsB ∨ (s.obeyDome r).stepsB = 0#8) := by
  cases r <;> simp [State.obeyDome]

/-! ### Sent messages -/

/-- Sending a command writes the counters, the gate and DTX. -/
theorem State.sendCommand_spec (s : State) (c : Command) :
    s.sendCommand c
      = { s with
          stepsA := if c = .stepA then s.stepsA - 1#8 else s.stepsA
          stepsB := if c = .stepB then s.stepsB - 1#8 else s.stepsB
          rrst := if c = .relayReset ∧ s.cfg.hasRelayReset = true then s.rrst - 1#8 else s.rrst
          gate := true
          dtx := (s.push .dtx c.code).dtx } := by
  cases c with
  | relayReset =>
    cases hr : s.cfg.hasRelayReset <;>
      simp [State.sendCommand, State.useCounter, State.setRrst, State.rrstCount, State.push, hr]
  | stepA => rfl
  | stepB => rfl

/-- A message's operation is a TICK or nothing. -/
theorem State.tickSending_cases (s : State) (c : Command) : s.tickSending c = s.tickRun ∨ s.tickSending c = s := by
  unfold State.tickSending
  split <;> simp

theorem State.tickReporting_cases (s : State) (b : Byte) :
    s.tickReporting b = s.tickRun ∨ s.tickReporting b = s := by
  unfold State.tickReporting
  split <;> simp

/-- All that an attempt at TICK can do: the whole tick, or nothing. -/
theorem State.tickRun_cases (s : State) :
    (s.tickPend = true ∧ s.tickHeld = false ∧ s.tickRun = s.tickNext)
      ∨ ((s.tickPend = false ∨ s.tickHeld = true) ∧ s.tickRun = s) := by
  unfold State.tickRun
  cases s.tickPend <;> cases s.tickHeld <;> simp

/-! ### Storages keep their canonical form -/

/-- Right after reset every storage has the canonical form. -/
theorem State.resetWith_mem_wf (c : Config) (f : BufId) : Memory.wf ((State.resetWith c).buf f).mem := by
  cases f <;> exact List.Pairwise.nil

theorem State.reset_mem_wf (f : BufId) : Memory.wf (State.reset.buf f).mem := State.resetWith_mem_wf _ f

theorem State.push_mem_wf {s : State} (h : ∀ g, Memory.wf (s.buf g).mem) (f : BufId) (b : Byte) (g : BufId) :
    Memory.wf ((s.push f b).buf g).mem := by
  by_cases hg : g = f
  · subst hg
    rw [State.buf_push_same]
    exact Memory.wf_write (h g) _ _
  · rw [State.buf_push_ne _ _ hg]
    exact h g

theorem State.popped_mem_wf {s : State} (h : ∀ g, Memory.wf (s.buf g).mem) (f g : BufId) :
    Memory.wf ((s.popped f).buf g).mem := by
  by_cases hg : g = f
  · subst hg
    rw [State.buf_popped_same]
    exact h g
  · rw [State.buf_popped_ne _ hg]
    exact h g

/-! ### Updates that leave the invariants alone -/

/-- The invariants say nothing of the gate, the blink phase, the pending tick, the outputs and the model's own
fields. -/
theorem State.Inv.of_same {s t : State} (h : s.Inv)
    (e : t = { s with
      gate := t.gate, blink := t.blink, tickPend := t.tickPend, htxOut := t.htxOut, dtxOut := t.dtxOut
      tickO := t.tickO, ret := t.ret, script := t.script, draws := t.draws }) : t.Inv := by
  rw [e]
  exact ⟨h.cfg_wf, h.act_trig, h.trig_iff, h.hb_range, h.idle_steps, h.stepsA_le, h.stepsB_le, h.rrst_le, h.siren_le,
    h.phase_lt, h.tcnt_lt, fun f => by have hf := h.buf_inv f; cases f <;> exact hf⟩

theorem State.Inv.afterFetch {s : State} (h : s.Inv) : s.afterFetch.Inv :=
  h.of_same (by rw [State.afterFetch_spec])

theorem State.Inv.push {s : State} (h : s.Inv) (f : BufId) (b : Byte) : (s.push f b).Inv := by
  refine ⟨?_, ?_, ?_, ?_, ?_, ?_, ?_, ?_, ?_, ?_, ?_, State.buf_inv_push h.buf_inv b⟩ <;> simp
  exacts [h.cfg_wf, h.act_trig, by simpa using h.trig_iff, h.hb_range, by simpa using h.idle_steps, h.stepsA_le,
    h.stepsB_le, h.rrst_le, h.siren_le, h.phase_lt, h.tcnt_lt]

theorem State.Inv.popped {s : State} (h : s.Inv) {f : BufId} (hc : s.bufCanRead f = true) : (s.popped f).Inv := by
  refine ⟨?_, ?_, ?_, ?_, ?_, ?_, ?_, ?_, ?_, ?_, ?_, State.buf_inv_popped h.buf_inv hc⟩ <;> simp
  exacts [h.cfg_wf, h.act_trig, by simpa using h.trig_iff, h.hb_range, by simpa using h.idle_steps, h.stepsA_le,
    h.stepsB_le, h.rrst_le, h.siren_le, h.phase_lt, h.tcnt_lt]

/-- In a disabled controller nothing is active. -/
theorem State.Inv.act_of_disabled {s : State} (h : s.Inv) (h0 : s.hb = 0#8) : s.trig = false ∧ s.act = false := by
  have ht : s.trig = false := by
    cases hc : s.trig
    · rfl
    · have := h.trig_iff.mp hc
      simp [h0, sentinel] at this
  refine ⟨ht, ?_⟩
  cases hc : s.act
  · rfl
  · exact absurd (h.act_trig hc) (by simp [ht])

end Sys2Proof.Machine
end

