-- ==== Sys2Proof/Laws/PerInstr.lean ====
section
/-! SUPPORT. A statement for every operation, one lemma for each constructor of `Instr`. -/

namespace Sys2Proof.Laws.VariantConditions

/-- Whether an operation is well-formed, and which encodings its row has, depends on no parameter but HAS_SIREN and
HAS_RELAY_RESET: no other row of the opcode table has a condition (30_encoding.md R73). -/
def Statement (i : Instr) : Prop :=
  ∀ c c' : Config, c.hasSiren = c'.hasSiren → c.hasRelayReset = c'.hasRelayReset →
    i.wellFormed c = i.wellFormed c' ∧ i.tableRow c = i.tableRow c'

theorem hDisable : Statement .hDisable := fun _ _ _ _ => ⟨rfl, rfl⟩
theorem hArm (v : Byte) : Statement (.hArm v) := fun _ _ _ _ => ⟨rfl, rfl⟩
theorem hRsv (v : Byte) : Statement (.hRsv v) := fun _ _ hs _ => by simp [Instr.wellFormed, Instr.isReserved, Instr.tableRow, hs]
theorem hSiren : Statement .hSiren := fun _ _ hs _ => by simp [Instr.wellFormed, Instr.tableRow, hs]
theorem dClosedA : Statement .dClosedA := fun _ _ _ _ => ⟨rfl, rfl⟩
theorem dClosedB : Statement .dClosedB := fun _ _ _ _ => ⟨rfl, rfl⟩
theorem dClosedBoth : Statement .dClosedBoth := fun _ _ _ _ => ⟨rfl, rfl⟩
theorem dOther (c : Byte) : Statement (.dOther c) := fun _ _ _ _ => ⟨rfl, rfl⟩
theorem cStepA : Statement .cStepA := fun _ _ _ _ => ⟨rfl, rfl⟩
theorem cStepB : Statement .cStepB := fun _ _ _ _ => ⟨rfl, rfl⟩
theorem cReset : Statement .cReset := fun _ _ _ hr => by simp [Instr.wellFormed, Instr.tableRow, hr]
theorem sDisabled : Statement .sDisabled := fun _ _ _ _ => ⟨rfl, rfl⟩
theorem sCount (v : Byte) : Statement (.sCount v) := fun _ _ _ _ => ⟨rfl, rfl⟩
theorem sClosing : Statement .sClosing := fun _ _ _ _ => ⟨rfl, rfl⟩
theorem sTriggered : Statement .sTriggered := fun _ _ _ _ => ⟨rfl, rfl⟩
theorem clk : Statement .clk := fun _ _ _ _ => ⟨rfl, rfl⟩
theorem pulse : Statement .pulse := fun _ _ _ _ => ⟨rfl, rfl⟩
theorem tick : Statement .tick := fun _ _ _ _ => ⟨rfl, rfl⟩
theorem rxArrive (f : RxBuf) (b : Byte) : Statement (.rxArrive f b) := fun _ _ _ _ => ⟨rfl, rfl⟩
theorem canRead (f : RxBuf) : Statement (.canRead f) := fun _ _ _ _ => ⟨rfl, rfl⟩
theorem read (f : RxBuf) : Statement (.read f) := fun _ _ _ _ => ⟨rfl, rfl⟩
theorem write (f : TxBuf) (b : Byte) : Statement (.write f b) := fun _ _ _ _ => ⟨rfl, rfl⟩
theorem txDrain (f : TxBuf) : Statement (.txDrain f) := fun _ _ _ _ => ⟨rfl, rfl⟩
theorem hostPoll : Statement .hostPoll := fun _ _ _ _ => ⟨rfl, rfl⟩
theorem domePoll : Statement .domePoll := fun _ _ _ _ => ⟨rfl, rfl⟩
theorem status : Statement .status := fun _ _ _ _ => ⟨rfl, rfl⟩
theorem reset : Statement .reset := fun _ _ _ _ => ⟨rfl, rfl⟩

end Sys2Proof.Laws.VariantConditions
end

