-- ==== Sys2Proof/Tests/Slice0.lean ====
section
/-! SUPPORT. Tests: ill-formed terms that WellFormed refuses; every operation's decoding from a byte or line written out
from the spec's tables; one step of every operation with the result that the spec gives; and, for each obligation that
has hypotheses, a concrete case that meets them. Expected values are those of 95_test_vectors.md or follow by hand from
the rule that a comment names. -/

open Sys2Proof Sys2Proof.Machine

namespace Sys2Proof.Tests

/-! ### Two machines -/

/-- No siren, no relay reset, MAX_SHUTTER_CLOSE_STEPS = 3, buffers of 4 slots, TICK_DIV = 8. -/
def plain : Config where
  hasSiren := false
  hasRelayReset := false
  maxShutterCloseSteps := 3#8
  relayResetSteps := 0#8
  sirenArmSteps := 0#8
  sirenPrewarnCounts := 0#8
  ticksPerCount := 1
  statusSample := .entry
  kHrx := 2
  kHtx := 2
  kDrx := 2
  kDtx := 2
  fClkHz := 16

/-- Siren and relay reset, MAX_SHUTTER_CLOSE_STEPS = 2, RELAY_RESET_STEPS = 1, SIREN_ARM_STEPS = 3,
SIREN_PREWARN_COUNTS = 2. -/
def siren : Config :=
  { plain with
    hasSiren := true, hasRelayReset := true, maxShutterCloseSteps := 2#8, relayResetSteps := 1#8
    sirenArmSteps := 3#8, sirenPrewarnCounts := 2#8 }

/-- Two ticks a count, and the status sampled at the tick's exit. -/
def slow : Config := { plain with ticksPerCount := 2, statusSample := .exit }

def idle (c : Config) : State := State.resetWith c
def counting (c : Config) (v : Byte) : State := { idle c with hb := v }
def closing (c : Config) (a b r : Byte) : State :=
  { idle c with hb := 255#8, trig := true, act := true, stepsA := a, stepsB := b, rrst := r }
def closed (c : Config) : State := { idle c with hb := 255#8, trig := true }
def due (s : State) : State := { s with tickPend := true }

/-- The ring buffer `f` filled with three bytes, all that its four slots hold. -/
def filled (s : State) (f : BufId) : State := ((s.push f 7#8).push f 0#8).push f 120#8

/-- One step on one script line. -/
def one (s : State) (line : Stimulus) : Option State :=
  match step { s with script := [line] } with
  | .next t => some t
  | .fault _ => none
  | .refused _ => none

/-- The controller's variables. -/
structure Ctrl where
  hb : Byte
  trig : Bool
  act : Bool
  stepsA : Byte
  stepsB : Byte
  siren : Byte
  rrst : Byte
  gate : Bool
  deriving DecidableEq, Repr

def ctrl (s : State) : Ctrl := ⟨s.hb, s.trig, s.act, s.stepsA, s.stepsB, s.siren, s.rrst, s.gate⟩

/-! ### WellFormed refuses -/

theorem test_wf_arm_zero : (Instr.hArm 0#8).wellFormed siren = false := by decide
theorem test_wf_arm_above : (Instr.hArm 241#8).wellFormed siren = false := by decide
theorem test_wf_rsv_below : (Instr.hRsv 240#8).wellFormed siren = false := by decide
theorem test_wf_rsv_siren_byte : (Instr.hRsv 255#8).wellFormed siren = false := by decide
theorem test_wf_siren_without : Instr.hSiren.wellFormed plain = false := by decide
theorem test_wf_other_x : (Instr.dOther 0x58#8).wellFormed siren = false := by decide
theorem test_wf_other_y : (Instr.dOther 0x59#8).wellFormed siren = false := by decide
theorem test_wf_other_zero : (Instr.dOther 0x30#8).wellFormed siren = false := by decide
theorem test_wf_reset_without : Instr.cReset.wellFormed plain = false := by decide
theorem test_wf_count_zero : (Instr.sCount 0#8).wellFormed siren = false := by decide
theorem test_wf_count_above : (Instr.sCount 241#8).wellFormed siren = false := by decide
theorem test_config_prewarn : ({ plain with sirenPrewarnCounts := 240#8 }).wf = false := by decide
theorem test_config_ticks_per_count : ({ plain with ticksPerCount := 0 }).wf = false
    ∧ ({ plain with ticksPerCount := 3 }).wf = false := by decide
theorem test_config_k : ({ plain with kHrx := 0 }).wf = false ∧ ({ plain with kHtx := 9 }).wf = false
    ∧ ({ plain with kDrx := 0 }).wf = false ∧ ({ plain with kDtx := 9 }).wf = false := by decide
theorem test_config_clk : ({ plain with fClkHz := 0 }).wf = false ∧ ({ plain with fClkHz := 7 }).wf = false := by decide
theorem test_config_good : plain.wf = true ∧ siren.wf = true ∧ slow.wf = true := by decide

/-! ### Decoding (the tables of R61 to R64, R69) -/

theorem test_decode_host :
    decode siren (.message .hostToDevice 0b00000000#8) = .instr .hDisable
      ∧ decode siren (.message .hostToDevice 0b00000001#8) = .instr (.hArm 1#8)
      ∧ decode siren (.message .hostToDevice 0b11110000#8) = .instr (.hArm 240#8)
      ∧ decode siren (.message .hostToDevice 0b11110001#8) = .instr (.hRsv 241#8)
      ∧ decode siren (.message .hostToDevice 0b11111110#8) = .instr (.hRsv 254#8)
      ∧ decode siren (.message .hostToDevice 0b11111111#8) = .instr .hSiren
      ∧ decode plain (.message .hostToDevice 0b11111111#8) = .instr (.hRsv 255#8) := by decide

theorem test_decode_dome :
    decode plain (.message .domeToDevice 0b01011000#8) = .instr .dClosedA
      ∧ decode plain (.message .domeToDevice 0b01011001#8) = .instr .dClosedB
      ∧ decode plain (.message .domeToDevice 0b00110000#8) = .instr .dClosedBoth
      ∧ decode plain (.message .domeToDevice 0b00110001#8) = .instr (.dOther 0x31#8) := by decide

theorem test_decode_commands :
    decode siren (.message .deviceToDome 0b01000001#8) = .instr .cStepA
      ∧ decode siren (.message .deviceToDome 0b01000010#8) = .instr .cStepB
      ∧ decode siren (.message .deviceToDome 0b01010010#8) = .instr .cReset
      ∧ decode plain (.message .deviceToDome 0b01010010#8) = .rejected (.neverSent .deviceToDome 0x52#8) := by decide

theorem test_decode_status :
    decode plain (.message .deviceToHost 0b00000000#8) = .instr .sDisabled
      ∧ decode plain (.message .deviceToHost 0b00000001#8) = .instr (.sCount 1#8)
      ∧ decode plain (.message .deviceToHost 0b11110000#8) = .instr (.sCount 240#8)
      ∧ decode plain (.message .deviceToHost 0b11111110#8) = .instr .sClosing
      ∧ decode plain (.message .deviceToHost 0b11111111#8) = .instr .sTriggered
      ∧ decode plain (.message .deviceToHost 0b11111101#8) = .rejected (.neverSent .deviceToHost 253#8) := by decide

theorem test_decode_events :
    decode plain (.event .clk) = .instr .clk ∧ decode plain (.event .pulse) = .instr .pulse
      ∧ decode plain (.event .tick) = .instr .tick
      ∧ decode plain (.event (.rxArrive .drx 9#8)) = .instr (.rxArrive .drx 9#8)
      ∧ decode plain (.event (.canRead .hrx)) = .instr (.canRead .hrx)
      ∧ decode plain (.event (.read .drx)) = .instr (.read .drx)
      ∧ decode plain (.event (.write .dtx 9#8)) = .instr (.write .dtx 9#8)
      ∧ decode plain (.event (.txDrain .htx)) = .instr (.txDrain .htx)
      ∧ decode plain (.event .hostPoll) = .instr .hostPoll ∧ decode plain (.event .domePoll) = .instr .domePoll
      ∧ decode plain (.event .status) = .instr .status ∧ decode plain (.event .reset) = .instr .reset := by decide

theorem test_table_words :
    decodeTableWord 8 0x78 = some (.hArm 120#8) ∧ decodeTableWord 8 0xFF = some .hSiren
      ∧ decodeTableWord 8 0x52 = some .cReset ∧ decodeTableWord 8 0xFE = some .sClosing
      ∧ decodeTableWord 0 0 = none := by decide

theorem test_fetch_word : (State.reset.withFetchWord 8 0x58).fetch
    = .op .dClosedA { State.reset with draws := 0 } := by rfl

/-! ### One step of each operation -/

/-- V9: the host bytes 0, 120, 245 on a counter of 7. -/
theorem test_step_host_bytes :
    (one (counting plain 7#8) (.message .hostToDevice 0#8)).map ctrl = some (ctrl (idle plain))
      ∧ (one (counting plain 7#8) (.message .hostToDevice 120#8)).map ctrl = some (ctrl (counting plain 120#8))
      ∧ (one (counting plain 7#8) (.message .hostToDevice 0xF5#8)).map ctrl = some (ctrl (counting plain 7#8)) := by
  decide

/-- V10: ARM is ignored while triggered; DISABLE leaves the step counters. -/
theorem test_step_triggered_host_bytes :
    (one (closing plain 1#8 3#8 0#8) (.message .hostToDevice 7#8)).map ctrl
        = some (Ctrl.mk 255#8 true true 1#8 3#8 0#8 0#8 false)
      ∧ (one (closing plain 1#8 3#8 0#8) (.message .hostToDevice 0#8)).map ctrl
        = some (Ctrl.mk 0#8 false false 1#8 3#8 0#8 0#8 false) := by decide

/-- V9: 0xFF loads the siren counter; without a siren it changes nothing. -/
theorem test_step_siren :
    (one (counting siren 7#8) (.message .hostToDevice 255#8)).map ctrl
        = some (Ctrl.mk 7#8 false false 0#8 0#8 3#8 0#8 false)
      ∧ (one (counting plain 7#8) (.message .hostToDevice 255#8)).map ctrl = some (ctrl (counting plain 7#8)) := by
  decide

/-- V25: the dome bytes 'X', 'Y', '0', 'x' on step counters 2 and 3. -/
theorem test_step_dome_bytes :
    ([0x58#8, 0x59#8, 0x30#8, 0x78#8].map fun b =>
        (one (closing plain 2#8 3#8 0#8) (.message .domeToDevice b)).map fun t => (t.stepsA, t.stepsB))
      = [some (0#8, 3#8), some (2#8, 0#8), some (0#8, 0#8), some (2#8, 3#8)] := by decide

/-- R126: the tick that sends 'R' uses the relay counter, before any step; the tick is then not one that sends 'A'. -/
theorem test_step_reset_command :
    (one (due (closing siren 2#8 2#8 1#8)) (.message .deviceToDome 0x52#8)).map (fun t => (ctrl t, t.dtx))
        = some (Ctrl.mk 255#8 true true 2#8 2#8 0#8 0#8 true, RingBuf.mk [(0, 0x52#8)] 0 1)
      ∧ (one (due (closing siren 2#8 2#8 1#8)) (.message .deviceToDome 0x41#8)).map (fun t => (ctrl t, t.dtx))
        = some (Ctrl.mk 255#8 true true 2#8 2#8 0#8 1#8 false, RingBuf.mk [] 0 0) := by decide

/-- R126: 'A' before 'B'. -/
theorem test_step_commands :
    (one (due (closing plain 1#8 3#8 0#8)) (.message .deviceToDome 0x41#8)).map (fun t => (ctrl t, t.dtx))
        = some (Ctrl.mk 255#8 true true 0#8 3#8 0#8 0#8 true, RingBuf.mk [(0, 0x41#8)] 0 1)
      ∧ (one (due (closing plain 0#8 3#8 0#8)) (.message .deviceToDome 0x42#8)).map (fun t => (ctrl t, t.dtx))
        = some (Ctrl.mk 255#8 true true 0#8 2#8 0#8 0#8 true, RingBuf.mk [(0, 0x42#8)] 0 1) := by decide

/-- R17, R18, R133: without a pending tick no command is sent and no counter changes. -/
theorem test_step_command_without_tick :
    (one (closing plain 1#8 3#8 0#8) (.message .deviceToDome 0x41#8)).map (fun t => (ctrl t, t.dtx))
      = some (Ctrl.mk 255#8 true true 1#8 3#8 0#8 0#8 false, RingBuf.mk [] 0 0) := by decide

/-- R130, R150: the tick reports the status byte of each conceptual state; it is not one that reports another byte. -/
theorem test_step_reports :
    (one (due (idle plain)) (.message .deviceToHost 0#8)).map (·.htx) = some (RingBuf.mk [(0, 0#8)] 0 1)
      ∧ (one (due (counting plain 7#8)) (.message .deviceToHost 7#8)).map (·.htx) = some (RingBuf.mk [(0, 7#8)] 0 1)
      ∧ (one (due (closing plain 1#8 3#8 0#8)) (.message .deviceToHost 254#8)).map (·.htx)
        = some (RingBuf.mk [(0, 254#8)] 0 1)
      ∧ (one (due (closed plain)) (.message .deviceToHost 255#8)).map (·.htx) = some (RingBuf.mk [(0, 255#8)] 0 1)
      ∧ (one (due (counting plain 7#8)) (.message .deviceToHost 8#8)).map (·.htx) = some (RingBuf.mk [] 0 0) := by
  decide

/-- R130: with STATUS_SAMPLE = exit the tick that finds 1 reports 254. -/
theorem test_step_report_exit :
    (one { due (counting slow 1#8) with phase := 1 } (.message .deviceToHost 254#8)).map
      (fun t => (t.hb, t.htx)) = some (255#8, RingBuf.mk [(0, 254#8)] 0 1) := by decide

/-- V6: the edge at `tcnt = 7` of TICK_DIV = 8 pulses, the one before it does not. -/
theorem test_step_clk :
    (one { idle plain with tcnt := 7 } (.event .clk)).map (fun t => (t.tcnt, t.tickPend, t.tickO))
        = some (0, true, true)
      ∧ (one { idle plain with tcnt := 6 } (.event .clk)).map (fun t => (t.tcnt, t.tickPend, t.tickO))
        = some (7, false, false) := by decide

/-- R105: PULSE sets `tick_pend`. -/
theorem test_step_pulse :
    (one { idle plain with tcnt := 5 } (.event .pulse)).map (fun t => (t.tcnt, t.tickPend)) = some (5, true) := by
  decide

/-- R124, R131: the trigger loads the counters; the report is of the entry state, a count of 1. -/
theorem test_step_tick_trigger :
    (one (due (counting siren 1#8)) (.event .tick)).map (fun t => (ctrl t, t.blink, t.tickPend, t.htx, t.dtx))
      = some (Ctrl.mk 255#8 true true 2#8 2#8 0#8 1#8 false, true, false, RingBuf.mk [(0, 1#8)] 0 1, RingBuf.mk [] 0 0) := by decide

/-- R122, R128: the tick that counts 3 down to SIREN_PREWARN_COUNTS = 2 arms the siren. -/
theorem test_step_tick_autoarm :
    (one (due (counting siren 3#8)) (.event .tick)).map ctrl
      = some (Ctrl.mk 2#8 false false 0#8 0#8 3#8 0#8 false) := by decide

/-- V1, V2: the byte goes to the write cursor's slot; a full buffer loses it. -/
theorem test_step_rx_arrive :
    (one (idle plain) (.event (.rxArrive .hrx 0x11#8))).map (fun t => t.hrx) = some (RingBuf.mk [(0, 0x11#8)] 0 1)
      ∧ (one (filled (idle plain) .hrx) (.event (.rxArrive .hrx 0x44#8))).map (fun t => t.hrx)
        = some (RingBuf.mk [(0, 7#8), (1, 0#8), (2, 120#8)] 0 3) := by decide

/-- R83. -/
theorem test_step_can_read :
    (one (idle plain) (.event (.canRead .drx))).map (·.ret) = some (some (.flag false))
      ∧ (one (filled (idle plain) .drx) (.event (.canRead .drx))).map (·.ret) = some (some (.flag true)) := by decide

/-- R84. -/
theorem test_step_read :
    (one (filled (idle plain) .drx) (.event (.read .drx))).map (fun t => (t.ret, t.drx.rd, t.drx.wr))
        = some (some (.byte 7#8), 1, 3)
      ∧ (one (idle plain) (.event (.read .drx))).map (fun t => (t.ret, t.drx.rd)) = some (none, 0) := by decide

/-- R85: a write at the last slot wraps; at a full buffer it holds. -/
theorem test_step_write :
    (one { idle plain with htx := ⟨[], 3, 3⟩ } (.event (.write .htx 9#8))).map (fun t => t.htx)
        = some (RingBuf.mk [(3, 9#8)] 3 0)
      ∧ (one (filled (idle plain) .htx) (.event (.write .htx 9#8))).map (fun t => t.htx.wr) = some 3 := by decide

/-- R88. -/
theorem test_step_tx_drain :
    (one (filled (idle plain) .htx) (.event (.txDrain .htx))).map (fun t => (t.htxOut, t.dtxOut, t.htx.rd))
        = some (some 7#8, none, 1)
      ∧ (one (filled (idle plain) .dtx) (.event (.txDrain .dtx))).map (fun t => (t.htxOut, t.dtxOut, t.dtx.rd))
        = some (none, some 7#8, 1) := by decide

/-- R160: the oldest byte, 7, is popped and obeyed. -/
theorem test_step_host_poll :
    (one (filled (idle plain) .hrx) (.event .hostPoll)).map (fun t => (t.hb, t.hrx.rd, t.hrx.wr)) = some (7#8, 1, 3) := by
  decide

/-- R161: 'Y' is popped and obeyed. -/
theorem test_step_dome_poll :
    (one ((closing plain 2#8 3#8 0#8).push .drx 0x59#8) (.event .domePoll)).map
        (fun t => (t.stepsA, t.stepsB, t.drx.rd, t.drx.wr)) = some (2#8, 0#8, 1, 1) := by decide

/-- R150. -/
theorem test_step_status :
    ([idle plain, counting plain 240#8, closing plain 1#8 1#8 0#8, closed plain].map fun s =>
        (one s (.event .status)).map (·.ret))
      = [some (some (.byte 0#8)), some (some (.byte 240#8)), some (some (.byte 254#8)), some (some (.byte 255#8))] := by
  decide

/-- V31. -/
theorem test_step_reset :
    one (filled { closing siren 1#8 2#8 1#8 with gate := true, blink := true, tcnt := 5 } .hrx) (.event .reset)
      = some (State.resetWith siren) := by decide

/-! ### States with the invariants -/

theorem inv_of_empty {s : State}
    (h : s.cfg.wf = true ∧ (s.act = true → s.trig = true) ∧ (s.trig = true ↔ s.hb = sentinel)
      ∧ (s.hb.toNat ≤ 240 ∨ s.hb = sentinel)
      ∧ (s.trig = true → s.act = false → s.stepsA = 0 ∧ s.stepsB = 0)
      ∧ s.stepsA.toNat ≤ s.cfg.maxShutterCloseSteps.toNat ∧ s.stepsB.toNat ≤ s.cfg.maxShutterCloseSteps.toNat
      ∧ (s.rrst.toNat ≤ if s.cfg.hasRelayReset then s.cfg.relayResetSteps.toNat else 0)
      ∧ (s.siren.toNat ≤ if s.cfg.hasSiren then s.cfg.sirenArmSteps.toNat else 0)
      ∧ s.phase < s.cfg.ticksPerCount ∧ s.tcnt < s.cfg.tickDiv)
    (hb : ∀ f, s.buf f = RingBuf.empty) : s.Inv := by
  obtain ⟨h1, h2, h3, h4, h5, h6, h7, h8, h9, h10, h11⟩ := h
  exact ⟨h1, h2, h3, h4, h5, h6, h7, h8, h9, h10, h11,
    fun f => hb f ▸ RingBuf.Inv.of_empty (Config.size_pos _ _)⟩

theorem inv_idle : (idle siren).Inv := inv_of_empty (by decide) (by intro f; cases f <;> rfl)
theorem inv_counting_one : (counting siren 1#8).Inv := inv_of_empty (by decide) (by intro f; cases f <;> rfl)
theorem inv_counting_top : (counting slow 240#8).Inv := inv_of_empty (by decide) (by intro f; cases f <;> rfl)
theorem inv_closing : (closing siren 2#8 1#8 1#8).Inv := inv_of_empty (by decide) (by intro f; cases f <;> rfl)
theorem inv_closing_end : (closing plain 0#8 0#8 0#8).Inv := inv_of_empty (by decide) (by intro f; cases f <;> rfl)
theorem inv_closed : (closed plain).Inv := inv_of_empty (by decide) (by intro f; cases f <;> rfl)
theorem inv_counting_two : (counting siren 2#8).Inv := inv_of_empty (by decide) (by intro f; cases f <;> rfl)

theorem Inv_due {s : State} (h : s.Inv) : (due s).Inv := h.of_same rfl
theorem Inv_script {s : State} (h : s.Inv) (l : List Stimulus) : ({ s with script := l }).Inv := h.of_same rfl

/-! ### For each obligation with hypotheses, a case that meets them -/

theorem test_meets_DecodeOfEncodeIsTheOperation :
    ([Instr.hArm 1#8, .hArm 240#8, .hRsv 241#8, .hRsv 254#8, .hSiren, .dOther 0x57#8, .dOther 0x31#8, .cReset,
        .sCount 1#8, .sCount 240#8, .tick].all fun i => i.wellFormed siren) = true
      ∧ (Instr.hRsv 255#8).wellFormed plain = true := by decide

theorem test_meets_EncodeOfDecodeIsTheLine :
    decode siren (.message .hostToDevice 240#8) = .instr (.hArm 240#8)
      ∧ decode plain (.message .hostToDevice 255#8) = .instr (.hRsv 255#8)
      ∧ decode siren (.message .deviceToDome 0x52#8) = .instr .cReset := by decide

theorem test_meets_HostBytesDecodeByTheirRanges :
    (1 ≤ (1#8).toNat ∧ (1#8).toNat ≤ 240) ∧ (1 ≤ (240#8).toNat ∧ (240#8).toNat ≤ 240) ∧ siren.hasSiren = true
      ∧ (241 ≤ (241#8).toNat ∧ (241#8).toNat ≤ 254) ∧ (241 ≤ (254#8).toNat ∧ (254#8).toNat ≤ 254)
      ∧ (241 ≤ (255#8).toNat ∧ plain.hasSiren = false) := by decide

theorem test_meets_DomeBytesDecodeByTheirCharacters :
    ∀ b ∈ [0x2F#8, 0x31#8, 0x57#8, 0x5A#8], b ≠ 0x58#8 ∧ b ≠ 0x59#8 ∧ b ≠ 0x30#8 := by decide

theorem test_meets_NeverSentBytesAreRefused :
    (241 ≤ (241#8).toNat ∧ (253#8).toNat ≤ 253)
      ∧ (0x43#8 ≠ 0x41#8 ∧ 0x43#8 ≠ 0x42#8 ∧ 0x43#8 ≠ 0x52#8)
      ∧ (0x52#8 ≠ 0x41#8 ∧ 0x52#8 ≠ 0x42#8 ∧ plain.hasRelayReset = false)
      ∧ ({ idle plain with script := [.message .deviceToDome 0x52#8] }).script
        = .message .deviceToDome 0x52#8 :: [] := by decide

theorem test_meets_StepPerformsTheDecodedOperation :
    ({ idle plain with script := [.event .tick] }).script = .event .tick :: []
      ∧ decode (idle plain).cfg (.event .tick) = .instr .tick := by decide

theorem test_meets_StepWithoutScriptIsAnAgentsOperation : State.reset.script = [] := rfl

theorem test_meets_ParametersAndTimerAreLeftAlone :
    exec .pulse (idle plain) = .next (due (idle plain)) ∧ Instr.pulse ≠ .clk ∧ Instr.pulse ≠ .reset :=
  ⟨rfl, by decide, by decide⟩

/-- Also for StepFollowsTheTransitionTable. -/
theorem test_meets_EveryStepKeepsTheInvariant :
    ∃ s t : State, s.Inv ∧ step s = .next t ∧ s.conceptual = some .counting
      ∧ t.conceptual = some .triggeredClosing :=
  ⟨{ due (counting siren 1#8) with script := [.event .tick] }, _, Inv_script (Inv_due inv_counting_one) _, rfl, by decide,
    by decide⟩

theorem test_meets_ResetSatisfiesTheInvariant :
    ({ plain with sirenPrewarnCounts := 239#8, ticksPerCount := 2, kHrx := 1, kDtx := 8, fClkHz := 2 }).wf = true := by
  decide

/-- One case for each of the three operations. -/
theorem test_meets_OnlyDisableClearsTheTrigger :
    ∀ l ∈ [Stimulus.message .hostToDevice 0#8, .event .hostPoll, .event .reset],
      (one ((closing siren 2#8 2#8 1#8).push .hrx 0#8) l).map (·.trig) = some false := by decide

theorem test_meets_ArmSetsTheCounterUnlessTriggered :
    (counting plain 7#8).trig = false ∧ (closed plain).trig = true := by decide

theorem test_meets_SirenCommandLoadsTheSiren :
    (idle siren).cfg.hasSiren = true ∧ (idle siren).cfg.sirenArmSteps ≠ 0#8 ∧ (idle plain).cfg.hasSiren = false := by
  decide

/-- Also for WriteIsPushedOrHolds, with the transmit buffers. -/
theorem test_meets_ArrivalIsPushedOrDiscarded :
    ∀ f : BufId, f ∈ [BufId.hrx, .htx, .drx, .dtx] →
      (idle plain).bufFull f = false ∧ (filled (idle plain) f).bufFull f = true := by decide

/-- A buffer of one byte, one whose byte was never written, an empty one; also for DrainHandsOverTheOldestByte. -/
theorem test_meets_ReadReturnsTheOldestByteOrHolds :
    ∀ f : BufId, f ∈ [BufId.hrx, .htx, .drx, .dtx] →
      let s := (idle plain).push f 9#8
      let u := (idle plain).setBuf f ⟨[], 0, 1⟩
      (s.bufCanRead f = true ∧ Memory.read (s.buf f).mem (s.buf f).rd = some 9#8)
        ∧ (u.bufCanRead f = true ∧ Memory.read (u.buf f).mem (u.buf f).rd = none)
        ∧ (idle plain).bufCanRead f = false := by decide

theorem test_meets_BuffersAreFirstInFirstOut :
    let s := (idle siren).push .drx 9#8
    RingBuf.Inv (s.cfg.size .drx) (s.buf .drx) ∧ s.bufFull .drx = false ∧ s.bufCanRead .drx = true :=
  ⟨(inv_idle.push .drx 9#8).buf_inv .drx, by decide, by decide⟩

theorem test_meets_ProducerAndConsumerCommute :
    let s := ((idle siren).push .drx 9#8).push .htx 8#8
    s.Inv ∧ s.bufCanRead .drx = true ∧ s.bufFull .drx = false ∧ s.bufCanRead .htx = true ∧ s.bufFull .htx = false :=
  ⟨(inv_idle.push .drx 9#8).push .htx 8#8, by decide, by decide, by decide, by decide⟩

/-- Each of the eight cursors is moved by its owner. -/
theorem test_meets_EachCursorHasOneWriter :
    let s := ((((due (closing plain 2#8 2#8 0#8)).push .hrx 7#8).push .drx 9#8).push .htx 8#8).push .dtx 8#8
    (one s (.event (.rxArrive .hrx 1#8))).map (·.hrx.wr) = some 2 ∧ (one s (.event .hostPoll)).map (·.hrx.rd) = some 1
      ∧ (one s (.event (.rxArrive .drx 1#8))).map (·.drx.wr) = some 2
      ∧ (one s (.event .domePoll)).map (·.drx.rd) = some 1
      ∧ (one s (.event .tick)).map (fun t => (t.htx.wr, t.dtx.wr)) = some (2, 2)
      ∧ (one s (.event (.txDrain .htx))).map (·.htx.rd) = some 1
      ∧ (one s (.event (.txDrain .dtx))).map (·.dtx.rd) = some 1 := by decide

theorem test_meets_ClockEdgeCountsOrPulses :
    ({ idle plain with tcnt := 7 }).tcnt = plain.fClkHz / 2 - 1 ∧ (idle plain).tcnt ≠ plain.fClkHz / 2 - 1 := by decide

theorem test_meets_TickDivEdgesMakeOnePulse :
    ((idle plain).tcnt < plain.tickDiv ∧ 1 ≤ 8 ∧ 8 ≤ plain.tickDiv)
      ∧ (({ idle plain with tcnt := 7 }).tcnt < plain.tickDiv ∧ 1 ≤ 1 ∧ 1 ≤ plain.tickDiv) := by decide

/-- One state for each line of the choice of the command. -/
theorem test_meets_TickConditionsAreThoseOfTheRule :
    (idle plain).act = false
      ∧ ((closing siren 2#8 2#8 1#8).act = true ∧ siren.hasRelayReset = true ∧ (closing siren 2#8 2#8 1#8).rrst ≠ 0#8)
      ∧ (plain.hasRelayReset = false ∧ (closing siren 1#8 2#8 0#8).rrst = 0#8
        ∧ (closing siren 1#8 2#8 0#8).stepsA ≠ 0#8)
      ∧ ((closing plain 0#8 1#8 0#8).act = true ∧ (closing plain 0#8 1#8 0#8).stepsA = 0#8
        ∧ (closing plain 0#8 1#8 0#8).stepsB ≠ 0#8)
      ∧ ((closing plain 0#8 0#8 0#8).stepsA = 0#8 ∧ (closing plain 0#8 0#8 0#8).stepsB = 0#8) := by decide

theorem test_meets_TickWaitsWithoutRequestOrRoom :
    (idle plain).tickPend = false ∧ (filled (idle plain) .htx).bufFull .htx = true
      ∧ ((filled (closing plain 2#8 2#8 0#8) .dtx).sel ≠ none
        ∧ (filled (closing plain 2#8 2#8 0#8) .dtx).bufFull .dtx = true) := by decide

/-- Each selection, each variant and each STATUS_SAMPLE, and a full DTX where nothing is selected; also for
TickEqualsItsSequentialProgram and TickAdvancesPhaseGateAndBlink. -/
theorem test_meets_TickWritesTheNextStateTable :
    (∀ s ∈ [due (counting slow 1#8), due (closing siren 2#8 2#8 1#8), due (closing plain 1#8 2#8 0#8),
        due (closing siren 0#8 1#8 0#8), filled (due (idle plain)) .dtx],
      s.tickPend = true ∧ s.bufFull .htx = false ∧ (s.sel = none ∨ s.bufFull .dtx = false))
      ∧ (closing siren 2#8 2#8 1#8).sel = some .relayReset ∧ (closing plain 1#8 2#8 0#8).sel = some .stepA
      ∧ (closing siren 0#8 1#8 0#8).sel = some .stepB ∧ (idle plain).sel = none
      ∧ plain.statusSample = .entry ∧ slow.statusSample = .exit := by decide

/-- The counts 0, 0xFF, 2, 240, and one in the first of two ticks. -/
theorem test_meets_TickCountsDown :
    (∀ s ∈ [due (idle plain), due (closed plain), due (counting plain 2#8), due (counting plain 240#8),
        due (counting slow 7#8)],
      s.tickPend = true ∧ s.bufFull .htx = false ∧ (s.sel = none ∨ s.bufFull .dtx = false))
      ∧ (idle plain).hb = 0#8 ∧ (closed plain).hb = 255#8
      ∧ (counting slow 7#8).phase ≠ slow.ticksPerCount - 1
      ∧ ((counting plain 2#8).hb ≠ 255#8 ∧ 2 ≤ (counting plain 2#8).hb.toNat
        ∧ (counting plain 2#8).phase = plain.ticksPerCount - 1) := by decide

theorem test_meets_TickTriggersAtOne :
    let s := due (counting siren 1#8)
    s.tickPend = true ∧ s.bufFull .htx = false ∧ s.hb = 1#8 ∧ s.phase = s.cfg.ticksPerCount - 1 ∧ s.act = false
      ∧ s.cfg.hasRelayReset = true := by decide

/-- With a relay reset due, and with none. -/
theorem test_meets_TickCompletesTheClose :
    ∀ s ∈ [due (closing siren 0#8 0#8 1#8), due (closing plain 0#8 0#8 0#8)],
      s.tickPend = true ∧ s.bufFull .htx = false ∧ (s.sel = none ∨ s.bufFull .dtx = false) ∧ s.act = true
        ∧ s.stepsA = 0#8 ∧ s.stepsB = 0#8 ∧ s.trig = true ∧ s.hb = 0xFF#8 := by decide

/-- Disabled; counting from below the arming value; counting far above it; closing; idle after the trigger: three ticks
of three, and none. -/
theorem test_meets_SirenRunsItsTicks :
    ∀ s ∈ [{ idle siren with siren := 3#8 }, { counting siren 2#8 with siren := 3#8 },
        { counting siren 240#8 with siren := 3#8 }, { closing siren 2#8 1#8 1#8 with siren := 3#8 },
        { closed siren with siren := 3#8 }],
      s.Inv ∧ s.cfg.hasSiren = true ∧ s.bufCanRead .htx = false ∧ (s.hb = 0#8 ∨ s.bufCanRead .dtx = false)
        ∧ (∀ n ∈ [0, 3], (s.trig = true ∨ s.hb.toNat ≤ s.cfg.sirenPrewarnCounts.toNat
            ∨ (s.phase + n) / s.cfg.ticksPerCount < s.hb.toNat - s.cfg.sirenPrewarnCounts.toNat)
          ∧ n ≤ s.siren.toNat) := by
  simp only [List.forall_mem_cons]
  exact ⟨⟨inv_of_empty (by decide) (by intro f; cases f <;> rfl), by decide⟩,
    ⟨inv_of_empty (by decide) (by intro f; cases f <;> rfl), by decide⟩,
    ⟨inv_of_empty (by decide) (by intro f; cases f <;> rfl), by decide⟩,
    ⟨inv_of_empty (by decide) (by intro f; cases f <;> rfl), by decide⟩,
    ⟨inv_of_empty (by decide) (by intro f; cases f <;> rfl), by decide⟩, by simp⟩

/-- One state for each row; counting on a decrementing tick with 2, with 1, and on a tick that does not decrement. -/
theorem test_meets_TickMovesBetweenConceptualStates :
    (∀ s ∈ [due (idle siren), due (counting slow 240#8), due (counting siren 2#8), due (counting siren 1#8),
        due (closing siren 2#8 1#8 1#8), due (closing plain 0#8 0#8 0#8), due (closed plain)],
      s.Inv ∧ s.tickPend = true ∧ s.bufFull .htx = false ∧ (s.sel = none ∨ s.bufFull .dtx = false))
      ∧ ((counting siren 2#8).conceptual = some .counting ∧ (counting siren 2#8).phase = siren.ticksPerCount - 1
        ∧ 2 ≤ (counting siren 2#8).hb.toNat)
      ∧ ((counting slow 240#8).conceptual = some .counting ∧ (counting slow 240#8).phase ≠ slow.ticksPerCount - 1)
      ∧ ((counting siren 1#8).conceptual = some .counting ∧ (counting siren 1#8).phase = siren.ticksPerCount - 1
        ∧ (counting siren 1#8).hb = 1#8)
      ∧ (closing siren 2#8 1#8 1#8).conceptual = some .triggeredClosing
      ∧ (closing plain 0#8 0#8 0#8).conceptual = some .triggeredClosing
      ∧ (closed plain).conceptual = some .triggeredIdle := by
  refine ⟨?_, by decide, by decide, by decide, by decide, by decide, by decide⟩
  simp only [List.forall_mem_cons]
  exact ⟨⟨Inv_due inv_idle, by decide⟩, ⟨Inv_due inv_counting_top, by decide⟩, ⟨Inv_due inv_counting_two, by decide⟩,
    ⟨Inv_due inv_counting_one, by decide⟩,
    ⟨Inv_due inv_closing, by decide⟩, ⟨Inv_due inv_closing_end, by decide⟩, ⟨Inv_due inv_closed, by decide⟩, by simp⟩

theorem test_meets_SilentHostTriggersOnTime :
    let s := counting slow 240#8
    s.Inv ∧ s.trig = false ∧ s.hb ≠ 0#8 ∧ s.bufCanRead .htx = false ∧ s.bufCanRead .dtx = false
      ∧ (s.hb.toNat - 1) * s.cfg.ticksPerCount + (s.cfg.ticksPerCount - s.phase) = 480 :=
  ⟨inv_counting_top, by decide, by decide, by decide, by decide, by decide⟩

theorem test_meets_UnconfirmedCloseRunsItsLength :
    let s := closing siren 2#8 1#8 1#8
    s.Inv ∧ s.act = true ∧ s.bufCanRead .htx = false ∧ s.bufCanRead .dtx = false
      ∧ (s.stepsA ≠ 0#8 ∨ s.stepsB ≠ 0#8 ∨ s.rrst = 0#8) ∧ s.rrst.toNat + s.stepsA.toNat + s.stepsB.toNat = 4
      ∧ ({ s with script := (macroTs 4).map encode }).Inv :=
  ⟨inv_closing, by decide, by decide, by decide, by decide, by decide, Inv_script inv_closing _⟩

theorem test_meets_DisabledControllerSendsNoCommand :
    let s := idle siren
    s.Inv ∧ s.hb = 0#8 ∧ s.bufCanRead .htx = false ∧ s.bufCanRead .dtx = false :=
  ⟨inv_idle, by decide, by decide, by decide⟩

theorem test_meets_DomeCommandsAreSentByPriority :
    (∀ s ∈ [due (closing siren 2#8 2#8 1#8), due (closing plain 1#8 2#8 0#8), due (closing siren 0#8 1#8 0#8)],
      s.tickPend = true ∧ s.bufFull .htx = false ∧ s.bufFull .dtx = false ∧ s.act = true ∧ s.fire = false)
      ∧ (siren.hasRelayReset = true ∧ (closing siren 2#8 2#8 1#8).rrst ≠ 0#8)
      ∧ (plain.hasRelayReset = false ∧ (closing plain 1#8 2#8 0#8).stepsA ≠ 0#8)
      ∧ ((closing siren 0#8 1#8 0#8).rrst = 0#8 ∧ (closing siren 0#8 1#8 0#8).stepsA = 0#8
        ∧ (closing siren 0#8 1#8 0#8).stepsB ≠ 0#8) := by decide

theorem test_meets_DomeCommandsAreNotSentOtherwise :
    (closing plain 1#8 2#8 0#8).tickPend = false ∧ (filled (closing plain 1#8 2#8 0#8) .htx).bufFull .htx = true
      ∧ (filled (closing plain 1#8 2#8 0#8) .dtx).bufFull .dtx = true
      ∧ (closing plain 1#8 2#8 0#8).sel ≠ some .relayReset ∧ (idle plain).sel ≠ some .stepA
      ∧ (closing plain 1#8 2#8 0#8).sel ≠ some .stepB := by decide

/-- Each of the four reports of the entry state, and one of the exit state. -/
theorem test_meets_StatusReportsArePushed :
    (∀ s ∈ [due (idle plain), due (counting plain 1#8), due (counting plain 240#8), due (closing plain 1#8 1#8 0#8),
        due (closed plain), { due (counting slow 1#8) with phase := 1 }],
      s.tickPend = true ∧ s.bufFull .htx = false ∧ (s.sel = none ∨ s.bufFull .dtx = false))
      ∧ (due (idle plain)).tickReport = 0#8 ∧ (due (counting plain 1#8)).tickReport = 1#8
      ∧ (due (counting plain 240#8)).tickReport = 240#8 ∧ (due (closing plain 1#8 1#8 0#8)).tickReport = 254#8
      ∧ (due (closed plain)).tickReport = 255#8 ∧ plain.statusSample = .entry
      ∧ ({ due (counting slow 1#8) with phase := 1 } : State).tickReport = 254#8 ∧ slow.statusSample = .exit := by
  decide

theorem test_meets_StatusReportsAreNotSentOtherwise :
    (idle plain).tickPend = false ∧ (filled (idle plain) .htx).bufFull .htx = true
      ∧ ((filled (closing plain 2#8 2#8 0#8) .dtx).sel ≠ none
        ∧ (filled (closing plain 2#8 2#8 0#8) .dtx).bufFull .dtx = true)
      ∧ (∀ v ∈ [254#8, 255#8, 8#8], (idle plain).tickReport ≠ v) ∧ (closed plain).tickReport ≠ 0#8 := by decide

/-- Also for OutputPinsFollowTheState. -/
theorem test_meets_StatusReturnsTheStatusByte :
    (closing plain 1#8 1#8 0#8).act = true ∧ ((closed plain).act = false ∧ (closed plain).trig = true)
      ∧ ((counting plain 240#8).act = false ∧ (counting plain 240#8).trig = false ∧ (counting plain 240#8).hb ≠ 0#8)
      ∧ ((idle plain).trig = false ∧ (idle plain).hb = 0#8) := by decide

theorem test_meets_StatusByteTellsTheConceptualState :
    ((idle siren).Inv ∧ (idle siren).conceptual = some .disabled)
      ∧ ((counting siren 1#8).Inv ∧ (counting siren 1#8).conceptual = some .counting)
      ∧ ((counting slow 240#8).Inv ∧ (counting slow 240#8).conceptual = some .counting)
      ∧ ((closing siren 2#8 1#8 1#8).Inv ∧ (closing siren 2#8 1#8 1#8).conceptual = some .triggeredClosing)
      ∧ ((closed plain).Inv ∧ (closed plain).conceptual = some .triggeredIdle) :=
  ⟨⟨inv_idle, by decide⟩, ⟨inv_counting_one, by decide⟩, ⟨inv_counting_top, by decide⟩, ⟨inv_closing, by decide⟩,
    ⟨inv_closed, by decide⟩⟩

/-- Also for DomePollPerformsTheResponse: a written byte, an unwritten one, an empty buffer. -/
theorem test_meets_HostPollPerformsTheCommand :
    let s := ((idle plain).push .hrx 9#8).push .drx 0x58#8
    let u := { idle plain with hrx := ⟨[], 0, 1⟩, drx := ⟨[], 0, 1⟩ }
    (s.bufCanRead .hrx = true ∧ Memory.read s.hrx.mem s.hrx.rd = some 9#8)
      ∧ (s.bufCanRead .drx = true ∧ Memory.read s.drx.mem s.drx.rd = some 0x58#8)
      ∧ (u.bufCanRead .hrx = true ∧ Memory.read u.hrx.mem u.hrx.rd = none)
      ∧ (u.bufCanRead .drx = true ∧ Memory.read u.drx.mem u.drx.rd = none)
      ∧ (idle plain).bufCanRead .hrx = false ∧ (idle plain).bufCanRead .drx = false := by decide

/-- With a byte in each receive buffer. -/
theorem test_meets_PollsOfTheTwoLinksCommute :
    (((closing siren 2#8 1#8 1#8).push .hrx 0#8).push .drx 0x58#8).Inv :=
  (inv_closing.push .hrx 0#8).push .drx 0x58#8

/-- Under `rst`; with a tick, with a host byte, with a dome byte and a full HRX; with both drains. -/
theorem test_meets_ClockCycleChoosesByPriority :
    let inp : Inputs := ⟨false, some 7#8, none, true, true⟩
    (idle plain).cycleOps ⟨true, some 7#8, none, true, true⟩ = [.reset]
      ∧ ((due (idle plain)).push .hrx 7#8).cycleOps inp = [.rxArrive .hrx 7#8, .tick, .clk]
      ∧ (((idle plain).push .hrx 7#8).push .drx 7#8).cycleOps inp = [.rxArrive .hrx 7#8, .hostPoll, .clk]
      ∧ ((idle plain).push .drx 7#8).cycleOps inp = [.rxArrive .hrx 7#8, .domePoll, .clk]
      ∧ (filled ((idle plain).push .htx 7#8) .hrx).cycleOps inp = [.txDrain .htx, .hostPoll, .clk] := by decide

theorem test_meets_ClockCycleIsAnInterleaving :
    let s := (idle siren).push .dtx 0x41#8
    s.Inv ∧ s.cycleOps ⟨false, some 7#8, none, true, true⟩ = [.rxArrive .hrx 7#8] ++ .txDrain .dtx :: [.clk] :=
  ⟨inv_idle.push .dtx 0x41#8, by decide⟩

/-- The trigger tick, which sends nothing, and the next one, which sends 'A'. -/
theorem test_meets_GateTellsWhetherTheLastTickSent :
    plain.wf = true
      ∧ (∃ t, execAll [.pulse, .tick] (counting plain 1#8) = .next t ∧ t.gate = false
          ∧ lastTickSent [.pulse, .tick] (counting plain 1#8) false = false)
      ∧ ∃ t, execAll [.pulse, .tick, .pulse, .tick] (counting plain 1#8) = .next t ∧ t.gate = true
          ∧ lastTickSent [.pulse, .tick, .pulse, .tick] (counting plain 1#8) false = true :=
  ⟨by decide, ⟨_, rfl, by decide, by decide⟩, ⟨_, rfl, by decide, by decide⟩⟩

/-- A run of three ticks from a count of 1, and a run of agents' operations from reset. -/
theorem test_meets_LinksCarryOneReportATickAndTableBytesOnly :
    let s := { counting siren 1#8 with script := (macroTs 3).map encode }
    let ops := [AgentOp.pulse, .tick, .txDrain .htx]
    (s.Inv ∧ s.bufCanRead .htx = false ∧ s.bufCanRead .dtx = false ∧ s.script = (macroTs 3).map encode
        ∧ hostTrace (4 * 3) s = [1#8, 254#8, 254#8])
      ∧ siren.wf = true
      ∧ hostTrace 3 { State.resetWith siren with script := ops.map fun op => .event op.event } = [0#8] :=
  ⟨⟨Inv_script inv_counting_one _, by decide, by decide, by decide, by decide⟩, by decide, by decide⟩

/-- One operation for each variable that a clause speaks of, which changes it. -/
theorem test_meets_VariablesAreWrittenByTheirOperationsOnly :
    (∃ t, exec .tick (due (counting siren 1#8)) = .next t ∧ t.hb ≠ 1#8 ∧ t.trig ≠ false ∧ t.act ≠ false ∧ t.stepsA ≠ 0#8
        ∧ t.stepsB ≠ 0#8 ∧ t.rrst ≠ 0#8 ∧ t.blink ≠ false ∧ t.tickPend ≠ true)
      ∧ (∃ t, exec .cStepA (due (closing plain 1#8 1#8 0#8)) = .next t ∧ t.gate ≠ false)
      ∧ (∃ t, exec .tick (due (idle slow)) = .next t ∧ t.phase ≠ 0)
      ∧ ∃ t, exec .hSiren (idle siren) = .next t ∧ t.siren ≠ 0#8 := by
  refine ⟨⟨_, rfl, ?_⟩, ⟨_, rfl, ?_⟩, ⟨_, rfl, ?_⟩, ⟨_, rfl, ?_⟩⟩ <;> decide

end Sys2Proof.Tests
end

/-!
Proofs of the family 10_state.md: the invariants of R25, who writes which variable of the controller, and RESET.

Every proof about an operation goes through `exec_effect`, which says once, for all 27 operations, what an operation
that answers a next state has done.
-/

namespace Sys2Proof.Machine

/-! ### What the shared operations leave unchanged -/

section Frames

variable (s : State)

@[simp] theorem State.obeyHost_cfg (c : HostCommand) : (s.obeyHost c).cfg = s.cfg := by rw [State.obeyHost_spec]
@[simp] theorem State.obeyHost_stepsA (c : HostCommand) : (s.obeyHost c).stepsA = s.stepsA := by
  rw [State.obeyHost_spec]
@[simp] theorem State.obeyHost_stepsB (c : HostCommand) : (s.obeyHost c).stepsB = s.stepsB := by
  rw [State.obeyHost_spec]
@[simp] theorem State.obeyHost_rrst (c : HostCommand) : (s.obeyHost c).rrst = s.rrst := by rw [State.obeyHost_spec]
@[simp] theorem State.obeyHost_gate (c : HostCommand) : (s.obeyHost c).gate = s.gate := by rw [State.obeyHost_spec]
@[simp] theorem State.obeyHost_blink (c : HostCommand) : (s.obeyHost c).blink = s.blink := by rw [State.obeyHost_spec]
@[simp] theorem State.obeyHost_phase (c : HostCommand) : (s.obeyHost c).phase = s.phase := by rw [State.obeyHost_spec]
@[simp] theorem State.obeyHost_tickPend (c : HostCommand) : (s.obeyHost c).tickPend = s.tickPend := by
  rw [State.obeyHost_spec]
@[simp] theorem State.obeyHost_tcnt (c : HostCommand) : (s.obeyHost c).tcnt = s.tcnt := by rw [State.obeyHost_spec]

/-! What each host command leaves of the counter, the flags and the siren counter (R110 to R113). -/

@[simp] theorem State.obeyHost_disable_siren : (s.obeyHost .disable).siren = s.siren := rfl
@[simp] theorem State.obeyHost_arm_trig (v : Byte) : (s.obeyHost (.arm v)).trig = s.trig := by
  simp only [State.obeyHost, State.arm]
  split <;> rfl
@[simp] theorem State.obeyHost_arm_act (v : Byte) : (s.obeyHost (.arm v)).act = s.act := by
  simp only [State.obeyHost, State.arm]
  split <;> rfl
@[simp] theorem State.obeyHost_arm_siren (v : Byte) : (s.obeyHost (.arm v)).siren = s.siren := by
  simp only [State.obeyHost, State.arm]
  split <;> rfl
@[simp] theorem State.obeyHost_siren_hb : (s.obeyHost .siren).hb = s.hb := State.setSiren_hb s _
@[simp] theorem State.obeyHost_siren_trig : (s.obeyHost .siren).trig = s.trig := State.setSiren_trig s _
@[simp] theorem State.obeyHost_siren_act : (s.obeyHost .siren).act = s.act := State.setSiren_act s _
@[simp] theorem State.obeyHost_reserved (v : Byte) : s.obeyHost (.reserved v) = s := rfl

@[simp] theorem State.obeyDome_cfg (r : DomeResponse) : (s.obeyDome r).cfg = s.cfg := by rw [State.obeyDome_spec]
@[simp] theorem State.obeyDome_hb (r : DomeResponse) : (s.obeyDome r).hb = s.hb := by rw [State.obeyDome_spec]
@[simp] theorem State.obeyDome_trig (r : DomeResponse) : (s.obeyDome r).trig = s.trig := by rw [State.obeyDome_spec]
@[simp] theorem State.obeyDome_act (r : DomeResponse) : (s.obeyDome r).act = s.act := by rw [State.obeyDome_spec]
@[simp] theorem State.obeyDome_siren (r : DomeResponse) : (s.obeyDome r).siren = s.siren := by
  rw [State.obeyDome_spec]
@[simp] theorem State.obeyDome_rrst (r : DomeResponse) : (s.obeyDome r).rrst = s.rrst := by rw [State.obeyDome_spec]
@[simp] theorem State.obeyDome_gate (r : DomeResponse) : (s.obeyDome r).gate = s.gate := by rw [State.obeyDome_spec]
@[simp] theorem State.obeyDome_blink (r : DomeResponse) : (s.obeyDome r).blink = s.blink := by
  rw [State.obeyDome_spec]
@[simp] theorem State.obeyDome_phase (r : DomeResponse) : (s.obeyDome r).phase = s.phase := by
  rw [State.obeyDome_spec]
@[simp] theorem State.obeyDome_tickPend (r : DomeResponse) : (s.obeyDome r).tickPend = s.tickPend := by
  rw [State.obeyDome_spec]
@[simp] theorem State.obeyDome_tcnt (r : DomeResponse) : (s.obeyDome r).tcnt = s.tcnt := by rw [State.obeyDome_spec]

@[simp] theorem State.tickNext_cfg : s.tickNext.cfg = s.cfg := by rw [State.tickNext_eq]
@[simp] theorem State.tickNext_tcnt : s.tickNext.tcnt = s.tcnt := by rw [State.tickNext_eq]
@[simp] theorem State.tickNext_trig : s.tickNext.trig = s.trigNext := by rw [State.tickNext_eq]
@[simp] theorem State.tickNext_gate : s.tickNext.gate = s.sel.isSome := by rw [State.tickNext_eq]
@[simp] theorem State.tickNext_tickPend : s.tickNext.tickPend = false := by rw [State.tickNext_eq]
theorem State.tickNext_dtx : s.tickNext.dtx = (s.tickCommand s.sel).dtx := by rw [State.tickNext_eq]

/-- The terminal count requests the tick as PULSE does, and it alone resets the timer and stands on `tick_o`. -/
theorem State.terminalCount_eq : s.terminalCount = { s with tickPend := true, tcnt := 0, tickO := true } := rfl

end Frames

/-! ### What an operation can do -/

/-- What an operation `i` that takes the state `s` to the state `t` has done, in terms of the shared operations. -/
inductive Effect : Instr → State → State → Prop
  /-- held, not enabled, a discarded arrival, or a message that no tick sends; RESET alone always has its effect -/
  | nothing {i : Instr} {s : State} (hi : i ≠ .reset) : Effect i s s
  | tick {i : Instr} {s : State} (hi : i.ofTick = true) (hp : s.tickPend = true) (hh : s.tickHeld = false) :
      Effect i s s.tickNext
  | hostCommand (c : HostCommand) (s : State) : Effect c.instr s (s.obeyHost c)
  | hostPoll {s : State} (hc : s.bufCanRead .hrx = true) :
      Effect .hostPoll s ((s.popped .hrx).obeyHost (Sys2Proof.hostCommand s.cfg (s.front .hrx)))
  | domeResponse (r : DomeResponse) (s : State) : Effect r.instr s (s.obeyDome r)
  | domePoll {s : State} (hc : s.bufCanRead .drx = true) :
      Effect .domePoll s ((s.popped .drx).obeyDome (Sys2Proof.domeResponse (s.front .drx)))
  | clkCount {s : State} (ht : s.tcnt ≠ s.cfg.tickDiv - 1) :
      Effect .clk s { s with tcnt := s.tcnt + 1, tickO := false }
  | clkTerminal {s : State} (ht : s.tcnt = s.cfg.tickDiv - 1) : Effect .clk s s.terminalCount
  | pulse (s : State) : Effect .pulse s s.raiseTick
  | rxArrive {f : RxBuf} {s : State} (hf : ¬ s.bufFull f.id = true) (b : Byte) :
      Effect (.rxArrive f b) s (s.push f.id b)
  | canRead (f : RxBuf) (s : State) : Effect (.canRead f) s { s with ret := some (.flag (s.bufCanRead f.id)) }
  | read {f : RxBuf} {s : State} (hc : s.bufCanRead f.id = true) :
      Effect (.read f) s { s.popped f.id with ret := some (.byte (s.front f.id)) }
  | write {f : TxBuf} {s : State} (hf : ¬ s.bufFull f.id = true) (b : Byte) : Effect (.write f b) s (s.push f.id b)
  | txDrain {f : TxBuf} {s : State} (hc : s.bufCanRead f.id = true) :
      Effect (.txDrain f) s ((s.popped f.id).handOver f (s.front f.id))
  | status (s : State) : Effect .status s { s with ret := some (.byte s.statusNow) }
  | reset (s : State) : Effect .reset s { State.resetWith s.cfg with script := s.script, draws := s.draws }

theorem Effect.of_ite {i : Instr} {s t u : State} {p : Prop} [Decidable p] (ht : p → Effect i s t)
    (hu : ¬ p → Effect i s u) : Effect i s (if p then t else u) := by
  split
  exacts [ht ‹_›, hu ‹_›]

theorem Instr.ne_reset_of_ofTick {i : Instr} (hi : i.ofTick = true) : i ≠ .reset := by
  rintro rfl
  exact absurd hi (by decide)

theorem Effect.of_tickRun {i : Instr} (hi : i.ofTick = true) (s : State) : Effect i s s.tickRun := by
  obtain ⟨hp, hh, e⟩ | ⟨-, e⟩ := s.tickRun_cases <;> rw [e]
  exacts [.tick hi hp hh, .nothing (Instr.ne_reset_of_ofTick hi)]

theorem Effect.of_tickSending {i : Instr} (hi : i.ofTick = true) (s : State) (c : Command) :
    Effect i s (s.tickSending c) := by
  obtain e | e := s.tickSending_cases c <;> rw [e]
  exacts [.of_tickRun hi s, .nothing (Instr.ne_reset_of_ofTick hi)]

theorem Effect.of_tickReporting {i : Instr} (hi : i.ofTick = true) (s : State) (b : Byte) :
    Effect i s (s.tickReporting b) := by
  obtain e | e := s.tickReporting_cases b <;> rw [e]
  exacts [.of_tickRun hi s, .nothing (Instr.ne_reset_of_ofTick hi)]

/-- Every operation answers a next state, and has had one of the effects there. -/
theorem exec_next_effect (i : Instr) (s : State) : ∃ t, exec i s = .next t ∧ Effect i s t := by
  cases i with
  | hDisable => exact ⟨_, exec_hDisable s, .hostCommand .disable s⟩
  | hArm v => exact ⟨_, exec_hArm v s, .hostCommand (.arm v) s⟩
  | hRsv v => exact ⟨_, exec_hRsv v s, .nothing nofun⟩
  | hSiren => exact ⟨_, exec_hSiren s, .hostCommand .siren s⟩
  | dClosedA => exact ⟨_, exec_dClosedA s, .domeResponse .closedA s⟩
  | dClosedB => exact ⟨_, exec_dClosedB s, .domeResponse .closedB s⟩
  | dClosedBoth => exact ⟨_, exec_dClosedBoth s, .domeResponse .closedBoth s⟩
  | dOther c => exact ⟨_, exec_dOther c s, .nothing nofun⟩
  | cStepA => exact ⟨_, exec_cStepA s, .of_tickSending rfl s _⟩
  | cStepB => exact ⟨_, exec_cStepB s, .of_tickSending rfl s _⟩
  | cReset => exact ⟨_, exec_cReset s, .of_tickSending rfl s _⟩
  | sDisabled => exact ⟨_, exec_sDisabled s, .of_tickReporting rfl s _⟩
  | sCount v => exact ⟨_, exec_sCount v s, .of_tickReporting rfl s _⟩
  | sClosing => exact ⟨_, exec_sClosing s, .of_tickReporting rfl s _⟩
  | sTriggered => exact ⟨_, exec_sTriggered s, .of_tickReporting rfl s _⟩
  | clk => exact ⟨_, exec_clk s, .of_ite .clkTerminal .clkCount⟩
  | pulse => exact ⟨_, exec_pulse s, .pulse s⟩
  | tick => exact ⟨_, exec_tick s, .of_tickRun rfl s⟩
  | rxArrive f b => exact ⟨_, exec_rxArrive f b s, .of_ite (fun _ => .nothing nofun) (.rxArrive · b)⟩
  | canRead f => exact ⟨_, exec_canRead f s, .canRead f s⟩
  | read f => exact ⟨_, exec_read f s, .of_ite .read fun _ => .nothing nofun⟩
  | write f b => exact ⟨_, exec_write f b s, .of_ite (fun _ => .nothing nofun) (.write · b)⟩
  | txDrain f => exact ⟨_, exec_txDrain f s, .of_ite .txDrain fun _ => .nothing nofun⟩
  | hostPoll => exact ⟨_, exec_hostPoll s, .of_ite .hostPoll fun _ => .nothing nofun⟩
  | domePoll => exact ⟨_, exec_domePoll s, .of_ite .domePoll fun _ => .nothing nofun⟩
  | status => exact ⟨_, exec_status s, .status s⟩
  | reset => exact ⟨_, exec_reset s, .reset s⟩

/-- The inversion of `exec`. -/
theorem exec_effect {i : Instr} {s t : State} (h : exec i s = .next t) : Effect i s t := by
  obtain ⟨u, hu, he⟩ := exec_next_effect i s
  obtain rfl : u = t := by simpa [hu] using h
  exact he

/-! ### The invariant after reset -/

theorem Config.ticksPerCount_pos {c : Config} (h : c.wf = true) : 0 < c.ticksPerCount := by
  simp only [Config.wf, Bool.and_eq_true, Bool.or_eq_true, beq_iff_eq] at h
  omega

theorem Config.tickDiv_pos {c : Config} (h : c.wf = true) : 0 < c.tickDiv := by
  simp only [Config.wf, Bool.and_eq_true, decide_eq_true_eq] at h
  unfold Config.tickDiv
  omega

/-- The parameters of the machine that was built are legal, whatever the OPEN ones are (log 1). -/
theorem Config.build_wf : Config.build.wf = true := by
  have hp := Config.openSirenPrewarnCounts.isLt
  simp only [Config.wf, Config.build, BitVec.toNat_ofNat, Bool.and_eq_true, decide_eq_true_eq, beq_iff_eq]
  refine ⟨⟨⟨⟨⟨⟨?_, ?_⟩, ?_⟩, ?_⟩, ?_⟩, ?_⟩, ?_⟩
  · omega
  all_goals simp

theorem State.resetWith_inv {c : Config} (h : c.wf = true) : (State.resetWith c).Inv where
  cfg_wf := h
  act_trig := nofun
  trig_iff := by simp [State.resetWith, sentinel]
  hb_range := .inl (Nat.zero_le _)
  idle_steps := nofun
  stepsA_le := Nat.zero_le _
  stepsB_le := Nat.zero_le _
  rrst_le := Nat.zero_le _
  siren_le := Nat.zero_le _
  phase_lt := Config.ticksPerCount_pos h
  tcnt_lt := Config.tickDiv_pos h
  buf_inv f := by cases f <;> exact .of_empty (Config.size_pos c _)

/-! ### The invariant under a command or a response -/

/-- The counter of a controller that is not triggered may be set to any count (R12, R25 I5, I6). -/
theorem State.Inv.arm {s : State} (h : s.Inv) {v : Byte} (hv : v.toNat ≤ 240) : (s.arm v).Inv := by
  unfold State.arm
  split
  · exact h
  · rename_i ht
    exact { h with trig_iff := iff_of_false ht (ne_sentinel_of_le hv), hb_range := .inl hv }

theorem State.Inv.disable {s : State} (h : s.Inv) : s.disable.Inv :=
  { h with
    act_trig := nofun
    trig_iff := iff_of_false nofun (ne_sentinel_of_le (Nat.zero_le _))
    hb_range := .inl (Nat.zero_le _)
    idle_steps := nofun }

theorem State.Inv.setSiren {s : State} (h : s.Inv) {v : Byte} (hv : v.toNat ≤ s.cfg.sirenArmSteps.toNat) :
    (s.setSiren v).Inv := by
  unfold State.setSiren
  split
  · rename_i hs
    exact { h with siren_le := by simpa [hs] using hv }
  · exact h

theorem State.Inv.obeyHost {s : State} (h : s.Inv) {c : HostCommand} (hc : ∀ v, c = .arm v → v.toNat ≤ 240) :
    (s.obeyHost c).Inv := by
  cases c with
  | disable => exact h.disable
  | arm v => exact h.arm (hc v rfl)
  | siren => exact h.setSiren le_rfl
  | reserved v => exact h

/-- A step counter may be zeroed in every state (R140 to R142, R144). -/
theorem State.Inv.obeyDome {s : State} (h : s.Inv) (r : DomeResponse) : (s.obeyDome r).Inv := by
  cases r with
  | closedA =>
    exact { h with idle_steps := fun ht ha => ⟨rfl, (h.idle_steps ht ha).2⟩, stepsA_le := Nat.zero_le _ }
  | closedB =>
    exact { h with idle_steps := fun ht ha => ⟨(h.idle_steps ht ha).1, rfl⟩, stepsB_le := Nat.zero_le _ }
  | closedBoth =>
    exact { h with idle_steps := fun _ _ => ⟨rfl, rfl⟩, stepsA_le := Nat.zero_le _, stepsB_le := Nat.zero_le _ }
  | other _ => exact h

/-- A host byte that arms is a count (R61). -/
theorem hostCommand_arm_le {c : Config} {b v : Byte} (h : hostCommand c b = .arm v) : v.toNat ≤ 240 := by
  obtain ⟨-, e⟩ | ⟨-, hb, e⟩ | ⟨-, -, e⟩ | ⟨-, -, e⟩ := hostCommand_cases c b <;> rw [e] at h <;> cases h
  exact hb

/-! ### The invariant under the timer -/

theorem State.Inv.clkCount {s : State} (h : s.Inv) (ht : s.tcnt ≠ s.cfg.tickDiv - 1) :
    { s with tcnt := s.tcnt + 1, tickO := false : State }.Inv :=
  { h with tcnt_lt := by have := h.tcnt_lt; show s.tcnt + 1 < s.cfg.tickDiv; omega }

theorem State.Inv.terminalCount {s : State} (h : s.Inv) : s.terminalCount.Inv :=
  { h with tcnt_lt := Config.tickDiv_pos h.cfg_wf }

/-! ### The invariant under a tick -/

/-- A byte counter that is not 0 and goes down by one stays within its bound (I8). -/
theorem byte_sub_one_le {b : Byte} (h : b ≠ 0#8) {n : Nat} (hn : b.toNat ≤ n) : (b - 1#8).toNat ≤ n := by
  rw [byte_sub_one h]
  omega

namespace State

theorem fire_iff (s : State) : s.fire = true ↔ s.dec = true ∧ s.hb = 1#8 := by
  simp [fire]

theorem ne_of_dec {s : State} (h : s.dec = true) : s.hb ≠ 0#8 ∧ s.hb ≠ sentinel := by
  simp only [dec, counting, Bool.and_eq_true, bne_iff_ne] at h
  exact h.1

/-- Only an untriggered counter is decremented. -/
theorem Inv.trig_of_dec {s : State} (h : s.Inv) (hd : s.dec = true) : s.trig = false :=
  Bool.eq_false_iff.mpr fun ht => (ne_of_dec hd).2 (h.trig_iff.mp ht)

/-- A triggered controller does not fire again. -/
theorem Inv.fire_of_trig {s : State} (h : s.Inv) (ht : s.trig = true) : s.fire = false :=
  Bool.eq_false_iff.mpr fun hf => absurd (h.trig_of_dec ((fire_iff s).mp hf).1) (by simp [ht])

/-- I1 after a tick. -/
theorem Inv.actNext_trigNext {s : State} (h : s.Inv) (ha : s.actNext = true) : s.trigNext = true := by
  unfold trigNext
  split
  · rfl
  · rename_i hf
    have hact : s.act = true := by simp_all [actNext]
    exact h.act_trig hact

/-- I5 after a tick: it fires, or it decrements an untriggered counter from 2 or more, or it leaves the counter. -/
theorem Inv.trigNext_iff {s : State} (h : s.Inv) : s.trigNext = true ↔ s.hbNext = sentinel := by
  unfold trigNext hbNext
  split
  · simp
  · split
    · rename_i hd
      have hle : (s.hb - 1#8).toNat ≤ 240 := by
        rw [byte_sub_one (ne_of_dec hd).1]
        have := h.hb_range.resolve_right (ne_of_dec hd).2
        omega
      exact iff_of_false (by simp [h.trig_of_dec hd]) (ne_sentinel_of_le hle)
    · exact h.trig_iff

/-- I6 after a tick. -/
theorem Inv.hbNext_range {s : State} (h : s.Inv) : s.hbNext.toNat ≤ 240 ∨ s.hbNext = sentinel := by
  unfold hbNext
  split
  · exact .inr rfl
  · split
    · rename_i hd
      have hle := h.hb_range.resolve_right (ne_of_dec hd).2
      rw [byte_sub_one (ne_of_dec hd).1]
      exact .inl (by omega)
    · exact h.hb_range

/-- I7 after a tick: a controller is idle after it where it was idle before or where its close sequence is complete, and
with both step counters 0 the tick sends no step. -/
theorem Inv.idle_stepsNext {s : State} (h : s.Inv) (ht : s.trigNext = true) (ha : s.actNext = false) :
    s.stepsANext = 0 ∧ s.stepsBNext = 0 := by
  have hf : s.fire = false := by
    cases hf : s.fire
    · rfl
    · simp [actNext, hf] at ha
  have htrig : s.trig = true := by simpa [trigNext, hf] using ht
  have hsteps : s.stepsA = 0 ∧ s.stepsB = 0 := by
    by_cases hact : s.act = true
    · have hc : s.complete = true := by simpa [actNext, hf, hact] using ha
      simpa [complete, hact] using hc
    · exact h.idle_steps htrig (by simpa using hact)
  have hsel : s.sel ≠ some .stepA ∧ s.sel ≠ some .stepB := by
    obtain ⟨e, -⟩ | ⟨e, -⟩ | ⟨-, -, -, hA⟩ | ⟨-, -, -, -, hB⟩ := s.sel_cases
    · simp [e]
    · simp [e]
    · exact absurd hsteps.1 hA
    · exact absurd hsteps.2 hB
  simpa [stepsANext, stepsBNext, hf, hsel] using hsteps

/-- I8 after a tick, shutter A. -/
theorem Inv.stepsANext_le {s : State} (h : s.Inv) : s.stepsANext.toNat ≤ s.cfg.maxShutterCloseSteps.toNat := by
  unfold stepsANext
  split
  · exact le_rfl
  · split
    · rename_i hs
      obtain ⟨e, -⟩ | ⟨e, -⟩ | ⟨-, -, -, hA⟩ | ⟨e, -⟩ := s.sel_cases
      case inr.inr.inl => exact byte_sub_one_le hA h.stepsA_le
      all_goals simp [e] at hs
    · exact h.stepsA_le

/-- I8 after a tick, shutter B. -/
theorem Inv.stepsBNext_le {s : State} (h : s.Inv) : s.stepsBNext.toNat ≤ s.cfg.maxShutterCloseSteps.toNat := by
  unfold stepsBNext
  split
  · exact le_rfl
  · split
    · rename_i hs
      obtain ⟨e, -⟩ | ⟨e, -⟩ | ⟨e, -⟩ | ⟨-, -, -, -, hB⟩ := s.sel_cases
      case inr.inr.inr => exact byte_sub_one_le hB h.stepsB_le
      all_goals simp [e] at hs
    · exact h.stepsB_le

/-- I8 after a tick, the relay reset; without the unit nothing is written (R17). -/
theorem Inv.rrstNext_le {s : State} (h : s.Inv) :
    (if s.cfg.hasRelayReset then s.rrstNext else s.rrst).toNat
      ≤ if s.cfg.hasRelayReset then s.cfg.relayResetSteps.toNat else 0 := by
  have hle := h.rrst_le
  cases hr : s.cfg.hasRelayReset
  · simpa [hr] using hle
  · have hcount : s.rrstCount.toNat ≤ s.cfg.relayResetSteps.toNat := by simpa [rrstCount, hr] using hle
    simp only [if_true, rrstNext]
    split
    · exact le_rfl
    · split
      · rename_i hs
        obtain ⟨e, -⟩ | ⟨-, -, h0⟩ | ⟨e, -⟩ | ⟨e, -⟩ := s.sel_cases
        case inr.inl => exact byte_sub_one_le h0 hcount
        all_goals simp [e] at hs
      · exact hcount

/-- I8 after a tick, the siren; without the unit nothing is written (R16). -/
theorem Inv.sirenNext_le {s : State} (h : s.Inv) :
    (if s.cfg.hasSiren then s.sirenNext else s.siren).toNat
      ≤ if s.cfg.hasSiren then s.cfg.sirenArmSteps.toNat else 0 := by
  have hle := h.siren_le
  cases hs : s.cfg.hasSiren
  · simpa [hs] using hle
  · have hcount : s.sirenCount.toNat ≤ s.cfg.sirenArmSteps.toNat := by simpa [sirenCount, hs] using hle
    simp only [if_true, sirenNext]
    split
    · exact le_rfl
    · split
      · exact byte_sub_one_le ‹_› hcount
      · exact Nat.zero_le _

theorem Inv.tickVars {s : State} (h : s.Inv) : s.tickVars.Inv := by
  rw [tickVars_eq]
  exact
    { h with
      act_trig := h.actNext_trigNext
      trig_iff := h.trigNext_iff
      hb_range := h.hbNext_range
      idle_steps := h.idle_stepsNext
      stepsA_le := h.stepsANext_le
      stepsB_le := h.stepsBNext_le
      rrst_le := h.rrstNext_le
      siren_le := h.sirenNext_le
      phase_lt := Nat.mod_lt _ (Config.ticksPerCount_pos h.cfg_wf) }

theorem Inv.tickCommand {s : State} (h : s.Inv) (o : Option Command) : (s.tickCommand o).Inv := by
  cases o with
  | none => exact h
  | some c => exact h.push .dtx c.code

theorem Inv.tickNext {s : State} (h : s.Inv) : s.tickNext.Inv :=
  ((h.tickVars.tickCommand s.sel).push .htx s.tickReport).of_same rfl

end State

/-! ### The invariant under a step -/

/-- Every operation whose H.ARM operand is a count keeps the invariant. -/
theorem Effect.inv {i : Instr} {s t : State} (e : Effect i s t) (hi : ∀ v, i = .hArm v → v.toNat ≤ 240)
    (h : s.Inv) : t.Inv := by
  cases e with
  | nothing _ => exact h
  | tick _ _ _ => exact h.tickNext
  | hostCommand c => exact h.obeyHost fun v hv => hi v (by rw [hv]; rfl)
  | hostPoll hc => exact (h.popped hc).obeyHost fun v => hostCommand_arm_le
  | domeResponse r => exact h.obeyDome r
  | domePoll hc => exact (h.popped hc).obeyDome _
  | clkCount ht => exact h.clkCount ht
  | clkTerminal _ => exact h.terminalCount
  | pulse => exact h.of_same rfl
  | rxArrive _ b => exact h.push _ b
  | canRead f => exact h.of_same rfl
  | read hc => exact (h.popped hc).of_same rfl
  | write _ b => exact h.push _ b
  | @txDrain f _ hc => exact (h.popped hc).of_same (by cases f <;> rfl)
  | status => exact h.of_same rfl
  | reset => exact (State.resetWith_inv h.cfg_wf).of_same rfl

/-- Only a host byte decodes to H.ARM, and its operand is a count (R61). -/
theorem decode_hArm_le {c : Config} {st : Stimulus} {v : Byte} (h : decode c st = .instr (.hArm v)) :
    v.toNat ≤ 240 := by
  obtain ⟨stream, b⟩ | e := st
  · cases stream with
    | hostToDevice =>
      cases hc : hostCommand c b <;> simp [decode, hc, HostCommand.instr] at h
      exact h ▸ hostCommand_arm_le hc
    | domeToDevice => cases hr : domeResponse b <;> simp [decode, hr, DomeResponse.instr] at h
    | deviceToDome => simp only [decode, decodeCommand] at h; split_ifs at h; all_goals simp at h
    | deviceToHost => simp only [decode, decodeStatus] at h; split_ifs at h; all_goals simp at h
  · cases e <;> simp [decode, Event.instr] at h

/-- Settles O12: each of the effects of `exec_effect` keeps the invariant, and what a script line decodes to has its
operand in range. -/
theorem everyStepKeepsTheInvariant : Obligations.EveryStepKeepsTheInvariant := by
  intro s t h hstep
  obtain ⟨i, hdec, hexec⟩ := step_next hstep
  exact (exec_effect hexec).inv (fun v hv => decode_hArm_le (hv ▸ hdec)) h.afterFetch

/-- Settles O13: `resetWith_inv`, and the parameters of the built machine are legal. -/
theorem resetSatisfiesTheInvariant : Obligations.ResetSatisfiesTheInvariant :=
  ⟨fun _ => State.resetWith_inv, State.resetWith_inv Config.build_wf⟩

/-! ### Parameters, timer and trigger -/

theorem Effect.cfg_eq {i : Instr} {s t : State} (e : Effect i s t) : t.cfg = s.cfg := by
  cases e with
  | reset => rfl
  | _ => simp [State.terminalCount_eq]

theorem Effect.tcnt_eq {i : Instr} {s t : State} (e : Effect i s t) (hc : i ≠ .clk) (hr : i ≠ .reset) :
    t.tcnt = s.tcnt := by
  cases e with
  | clkCount _ => exact absurd rfl hc
  | clkTerminal _ => exact absurd rfl hc
  | reset => exact absurd rfl hr
  | _ => simp

/-- Settles O11: no effect but RESET's rebuilds the state, and RESET takes the parameters over (R26). -/
theorem parametersAndTimerAreLeftAlone : Obligations.ParametersAndTimerAreLeftAlone :=
  fun _ _ _ h => ⟨(exec_effect h).cfg_eq, (exec_effect h).tcnt_eq⟩

theorem State.trigNext_of_trig {s : State} (h : s.trig = true) : s.trigNext = true := by
  simp [State.trigNext, h]

/-- Of the host commands only DISABLE clears the triggered flag (R13). -/
theorem State.eq_disable_of_trig_cleared {s : State} {c : HostCommand} (h : s.trig = true)
    (hc : (s.obeyHost c).trig = false) : c = .disable := by
  cases c with
  | disable => rfl
  | arm v => simp [h] at hc
  | siren => simp [h] at hc
  | reserved v => simp [h] at hc

/-- Only the byte 0 is the command DISABLE (R61, R114). -/
theorem eq_zero_of_hostCommand_disable {c : Config} {b : Byte} (h : hostCommand c b = .disable) : b = 0#8 := by
  obtain ⟨hb, -⟩ | ⟨-, -, e⟩ | ⟨-, -, e⟩ | ⟨-, -, e⟩ := hostCommand_cases c b
  · exact hb
  all_goals simp [e] at h

theorem Effect.of_trig_cleared {i : Instr} {s t : State} (e : Effect i s t) (hs : s.trig = true)
    (ht : t.trig = false) :
    i = .hDisable ∨ (i = .hostPoll ∧ s.bufCanRead .hrx = true ∧ s.front .hrx = 0#8) ∨ i = .reset := by
  cases e with
  | tick _ _ _ => simp [State.trigNext_of_trig hs] at ht
  | hostCommand c => exact .inl (by rw [State.eq_disable_of_trig_cleared hs ht]; rfl)
  | hostPoll hc =>
    have hcmd := State.eq_disable_of_trig_cleared (by simpa using hs) ht
    exact .inr (.inl ⟨rfl, hc, eq_zero_of_hostCommand_disable hcmd⟩)
  | reset => exact .inr (.inr rfl)
  | _ => simp [State.terminalCount_eq, hs] at ht

theorem State.fetch_of_decode {s : State} {i : Instr} (h : decode s.cfg s.nextStimulus = .instr i) :
    s.fetch = .op i s.afterFetch := by
  simp [State.fetch, h]

theorem State.afterFetch_trig (s : State) : s.afterFetch.trig = s.trig := by rw [State.afterFetch_spec]

/-- Settles O14. -/
theorem onlyDisableClearsTheTrigger : Obligations.OnlyDisableClearsTheTrigger := by
  intro s t hstep hs ht
  obtain ⟨i, hdec, hexec⟩ := step_next hstep
  exact ⟨i, s.afterFetch, State.fetch_of_decode hdec,
    (exec_effect hexec).of_trig_cleared (s.afterFetch_trig.trans hs) ht⟩

/-! ### The gate and the last tick -/

/-- A buffer has at least two slots, so a push moves its write cursor. -/
theorem State.push_wr_ne {s : State} (h : s.cfg.wf = true) (f : BufId) (b : Byte) :
    ((s.push f b).buf f).wr ≠ (s.buf f).wr := by
  have hn := Config.two_le_size h f
  rw [State.buf_push_same]
  intro e
  have hlt : (s.buf f).wr < s.cfg.size f := e ▸ Nat.mod_lt _ (by omega)
  have hmod := ring_add hlt (by omega : 1 ≤ s.cfg.size f)
  split at hmod <;> simp only at e <;> omega

/-- A tick moves the write cursor of DTX exactly where it sends a command (R126). -/
theorem State.tickNext_dtx_moved {s : State} (h : s.cfg.wf = true) :
    (s.tickNext.dtx.wr != s.dtx.wr) = s.sel.isSome := by
  rw [State.tickNext_dtx]
  cases s.sel with
  | none => simp
  | some c => simpa using State.push_wr_ne h .dtx c.code

/-- The gate after one operation (R18, R127), read as `lastTickSent` reads it. -/
theorem Effect.gate_eq {i : Instr} {s t : State} (e : Effect i s t) (h : s.cfg.wf = true) :
    t.gate
      = if i = .reset then false else if s.tickPend && !t.tickPend then t.dtx.wr != s.dtx.wr else s.gate := by
  cases e with
  | nothing hi => simp [hi]
  | tick hi hp _ => simp [Instr.ne_reset_of_ofTick hi, hp, State.tickNext_dtx_moved h]
  | hostCommand c => cases c <;> simp [HostCommand.instr]
  | domeResponse r => cases r <;> simp [DomeResponse.instr]
  | reset => rfl
  | _ => simp [State.terminalCount_eq]

/-- Settles O58, by induction on the sequence, from every start of the gate. -/
theorem gateTellsWhetherTheLastTickSent : Obligations.GateTellsWhetherTheLastTickSent := by
  intro ops
  induction ops with
  | nil =>
    intro s t _ h
    cases h
    rfl
  | cons i rest ih =>
    intro s t hwf h
    obtain ⟨u, hu, e⟩ := exec_next_effect i s
    simp only [execAll, hu] at h
    simp only [lastTickSent, hu, ← e.gate_eq hwf]
    exact ih u t (by rw [e.cfg_eq]; exact hwf) h

/-! ### Who writes which variable -/

/-- A message that the block sends is a TICK, or nothing (R133, log 6, 7). -/
theorem Effect.eq_or_tick {i : Instr} {s t : State} (e : Effect i s t) (hi : i.ofTick = true) :
    t = s ∨ exec .tick s = .next t := by
  cases e with
  | nothing _ => exact .inl rfl
  | tick _ hp hh => exact .inr (by rw [exec_tick, State.tickRun, if_pos ⟨hp, hh⟩])
  | hostCommand c => cases c <;> simp [HostCommand.instr, Instr.ofTick] at hi
  | domeResponse r => cases r <;> simp [DomeResponse.instr, Instr.ofTick] at hi
  | _ => simp [Instr.ofTick] at hi

/-- Settles O60: an effect that writes a variable belongs to an operation that the variable's rule names. -/
theorem variablesAreWrittenByTheirOperationsOnly : Obligations.VariablesAreWrittenByTheirOperationsOnly := by
  intro i s t h
  have e := exec_effect h
  refine ⟨e.eq_or_tick, ?_⟩
  cases e with
  | tick hi _ _ => simp [hi]
  | hostCommand c => cases c <;> simp [HostCommand.instr]
  | domeResponse r => cases r <;> simp [DomeResponse.instr, State.obeyDome]
  | clkTerminal _ => simp [State.terminalCount_eq]
  | _ => simp

/-! ### RESET -/

theorem State.sirenO_of_siren_zero {s : State} (h : s.siren = 0#8) : s.sirenO = false := by
  unfold State.sirenO State.sirenCount
  cases s.cfg.hasSiren <;> simp [h]

/-- Settles O55: the values are those of `State.resetWith`; only the siren's pin asks which variant is built (R16). -/
theorem resetGivesTheResetValues : Obligations.ResetGivesTheResetValues := by
  intro s
  refine ⟨_, exec_reset s, rfl, rfl, rfl, rfl, rfl, rfl, rfl, rfl, rfl, rfl, rfl, rfl, fun f => ?_, rfl,
    State.sirenO_of_siren_zero rfl, rfl, rfl, rfl, rfl, rfl, rfl, rfl⟩
  cases f <;> exact ⟨rfl, rfl, rfl⟩

end Sys2Proof.Machine

/-!
Proofs of the family 20_memory.md: the ring buffers as queues (R57, R80, R81), their producers and consumers (R50, R89),
and the one step that performs the next operation (R49).
-/

namespace Sys2Proof.Machine

/-! ### A step -/

theorem State.nextStimulus_of_script {s : State} {st : Stimulus} {rest : List Stimulus} (h : s.script = st :: rest) :
    s.nextStimulus = st := by
  simp [State.nextStimulus, h]

theorem State.afterFetch_of_script {s : State} {st : Stimulus} {rest : List Stimulus} (h : s.script = st :: rest) :
    s.afterFetch = { s with script := rest, htxOut := none, dtxOut := none, tickO := false, ret := none } := by
  simp [State.afterFetch, State.quiet, h]

theorem step_of_decode {s : State} {i : Instr} (h : decode s.cfg s.nextStimulus = .instr i) :
    step s = exec i s.afterFetch := by
  simp [step, State.fetch_of_decode h]

/-- Settles O8: a script line that decodes is what the step fetches. -/
theorem stepPerformsTheDecodedOperation : Obligations.StepPerformsTheDecodedOperation := by
  intro s st rest i hscript hdec
  rw [← State.afterFetch_of_script hscript]
  exact step_of_decode (by rwa [State.nextStimulus_of_script hscript])

/-! ### The cursors and the count -/

theorem State.bufFull_eq_false_iff (s : State) (f : BufId) :
    s.bufFull f = false ↔ ((s.buf f).wr + 1) % s.cfg.size f ≠ (s.buf f).rd := by
  rw [← Bool.not_eq_true, State.bufFull_iff]

/-- Advancing a cursor is injective on the slots. -/
theorem ring_succ_inj {n a b : Nat} (ha : a < n) (hb : b < n) (h : (a + 1) % n = (b + 1) % n) : a = b := by
  rw [ring_add ha (by omega), ring_add hb (by omega)] at h
  split at h <;> split at h <;> omega

/-- Advancing the write cursor, where that does not close the gap, makes the distance one longer. -/
theorem ring_dist_succ_wr {n rd wr : Nat} (hr : rd < n) (hw : wr < n) (hroom : (wr + 1) % n ≠ rd) :
    ((wr + 1) % n + (n - rd)) % n = (wr + (n - rd)) % n + 1 := by
  have hw' : (wr + 1) % n < n := Nat.mod_lt _ (by omega)
  rw [ring_dist hr hw, ring_dist hr hw']
  rcases Nat.lt_or_eq_of_le (show wr + 1 ≤ n from hw) with hlt | heq
  · rw [Nat.mod_eq_of_lt hlt] at hroom ⊢
    split <;> split <;> omega
  · rw [heq, Nat.mod_self] at hroom ⊢
    split <;> split <;> omega

/-- Advancing the read cursor, where the cursors differ, makes the distance one shorter. -/
theorem ring_dist_succ_rd {n rd wr : Nat} (hr : rd < n) (hw : wr < n) (hne : rd ≠ wr) :
    (wr + (n - rd)) % n = (wr + (n - (rd + 1) % n)) % n + 1 := by
  have hr' : (rd + 1) % n < n := Nat.mod_lt _ (by omega)
  rw [ring_dist hr hw, ring_dist hr' hw]
  rcases Nat.lt_or_eq_of_le (show rd + 1 ≤ n from hr) with hlt | heq
  · rw [Nat.mod_eq_of_lt hlt]
    split <;> split <;> omega
  · rw [heq, Nat.mod_self]
    split <;> split <;> omega

theorem State.count_lt_size (s : State) (f : BufId) : s.count f < s.cfg.size f :=
  Nat.mod_lt _ (Config.size_pos s.cfg f)

section Count

variable {s : State} {f : BufId}

/-- `count` without a remainder (R81). -/
theorem State.count_eq (h : RingBuf.Inv (s.cfg.size f) (s.buf f)) :
    s.count f = if (s.buf f).rd ≤ (s.buf f).wr then (s.buf f).wr - (s.buf f).rd
      else (s.buf f).wr + s.cfg.size f - (s.buf f).rd :=
  ring_dist h.rd_lt h.wr_lt

/-- The slot at the distance `j` from the read cursor is the write cursor's for `j` the count, and for no other `j`. -/
theorem State.slot_eq_wr_iff (h : RingBuf.Inv (s.cfg.size f) (s.buf f)) {j : Nat} (hj : j < s.cfg.size f) :
    ((s.buf f).rd + j) % s.cfg.size f = (s.buf f).wr ↔ j = s.count f := by
  have hr := h.rd_lt
  have hw := h.wr_lt
  rw [State.count_eq h, ring_add hr hj.le]
  split <;> split <;> omega

theorem State.count_push (h : RingBuf.Inv (s.cfg.size f) (s.buf f)) (hf : s.bufFull f = false) (b : Byte) :
    (s.push f b).count f = s.count f + 1 := by
  simp only [State.count, State.push_cfg, State.buf_push_same]
  exact ring_dist_succ_wr h.rd_lt h.wr_lt ((s.bufFull_eq_false_iff f).mp hf)

theorem State.count_popped (h : RingBuf.Inv (s.cfg.size f) (s.buf f)) (hc : s.bufCanRead f = true) :
    s.count f = (s.popped f).count f + 1 := by
  simp only [State.count, State.popped_cfg, State.buf_popped_same]
  exact ring_dist_succ_rd h.rd_lt h.wr_lt ((s.bufCanRead_iff f).mp hc)

/-! ### The contents as a queue -/

theorem State.length_contents_le : (s.contents f).length ≤ s.cfg.size f - 1 := by
  have hlt := s.count_lt_size f
  simp only [State.contents, List.length_map, List.length_range]
  omega

/-- A push writes the one slot behind the bytes that the buffer holds. -/
theorem State.contents_push (h : RingBuf.Inv (s.cfg.size f) (s.buf f)) (hf : s.bufFull f = false) (b : Byte) :
    (s.push f b).contents f = s.contents f ++ [some b] := by
  have hlt := s.count_lt_size f
  have hnew : ((s.buf f).rd + s.count f) % s.cfg.size f = (s.buf f).wr := (State.slot_eq_wr_iff h hlt).mpr rfl
  simp only [State.contents, State.count_push h hf, State.push_cfg, State.buf_push_same, List.range_succ,
    List.map_append, List.map_singleton, hnew, Memory.read_write_same, List.append_cancel_right_eq]
  refine List.map_congr_left fun j hj => Memory.read_write_ne _ _ fun he => ?_
  have hj := List.mem_range.mp hj
  exact hj.ne ((State.slot_eq_wr_iff h (hj.trans hlt)).mp he)

/-- The oldest byte is the one that a pop returns (R46: its slot has been written). -/
theorem State.contents_popped (h : RingBuf.Inv (s.cfg.size f) (s.buf f)) (hc : s.bufCanRead f = true) :
    s.contents f = some (s.front f) :: (s.popped f).contents f := by
  obtain ⟨b, hb⟩ := h.front_written ((s.bufCanRead_iff f).mp hc)
  have hfront : s.front f = b := (State.pop_written hb).1
  simp only [State.contents, State.count_popped h hc, State.popped_cfg, State.buf_popped_same, List.range_succ_eq_map,
    List.map_cons, List.map_map, Nat.add_zero, Nat.mod_eq_of_lt h.rd_lt, hb, hfront]
  refine congrArg _ (List.map_congr_left fun j _ => ?_)
  simp only [Function.comp_apply, Nat.mod_add_mod, Nat.add_assoc, Nat.add_comm 1 j, Nat.succ_eq_add_one]

end Count

/-- Settles O26, which needs of the state no more than the invariant of the one ring buffer. -/
theorem buffersAreFirstInFirstOut : Obligations.BuffersAreFirstInFirstOut := fun _ _ b h =>
  ⟨State.length_contents_le, fun hf => State.contents_push h hf b, State.contents_popped h⟩

/-! ### A push and a pop of one buffer commute (R50) -/

section Commute

variable {s : State} {f : BufId} (b : Byte)

/-- The buffer is not empty after a push where there was room. -/
theorem State.bufCanRead_push (hf : s.bufFull f = false) : (s.push f b).bufCanRead f = true := by
  rw [State.bufCanRead_iff, State.buf_push_same]
  exact ((s.bufFull_eq_false_iff f).mp hf).symm

/-- There is room after a pop. -/
theorem State.bufFull_popped (h : RingBuf.Inv (s.cfg.size f) (s.buf f)) (hc : s.bufCanRead f = true) :
    (s.popped f).bufFull f = false := by
  rw [State.bufFull_eq_false_iff, State.popped_cfg, State.buf_popped_same]
  exact fun e => (s.bufCanRead_iff f).mp hc (ring_succ_inj h.wr_lt h.rd_lt e).symm

/-- A push into a buffer that is not empty leaves the slot at the read cursor alone. -/
theorem State.read_front_push (hc : s.bufCanRead f = true) :
    Memory.read ((s.push f b).buf f).mem ((s.push f b).buf f).rd = Memory.read (s.buf f).mem (s.buf f).rd := by
  rw [State.buf_push_same]
  exact Memory.read_write_ne _ _ ((s.bufCanRead_iff f).mp hc)

theorem State.front_push (hc : s.bufCanRead f = true) : (s.push f b).front f = s.front f := by
  unfold State.front
  rw [State.read_front_push b hc, State.push_draws]

theorem State.frontDraws_push (hc : s.bufCanRead f = true) : (s.push f b).frontDraws f = s.frontDraws f := by
  unfold State.frontDraws
  rw [State.read_front_push b hc]

theorem State.popped_push (hc : s.bufCanRead f = true) : (s.push f b).popped f = (s.popped f).push f b := by
  rw [State.popped, State.frontDraws_push b hc]
  cases f <;> rfl

end Commute

theorem State.push_handOver (s : State) (f : BufId) (g : TxBuf) (b c : Byte) :
    (s.push f b).handOver g c = (s.handOver g c).push f b := by
  cases f <;> cases g <;> rfl

theorem State.bufFull_handOver (s : State) (f : BufId) (g : TxBuf) (b : Byte) :
    (s.handOver g b).bufFull f = s.bufFull f := by
  cases g <;> rfl

theorem State.push_ret_comm (s : State) (f : BufId) (b : Byte) (r : Option Returned) :
    { s.push f b with ret := r } = { s with ret := r : State }.push f b := by
  cases f <;> rfl

theorem execAll_pair {i j : Instr} {s t u : State} (hi : exec i s = .next t) (hj : exec j t = .next u) :
    execAll [i, j] s = .next u := by
  simp [execAll, hi, hj]

section Enabled

variable {s : State}

theorem exec_rxArrive_of_room {f : RxBuf} (hf : s.bufFull f.id = false) (b : Byte) :
    exec (.rxArrive f b) s = .next (s.push f.id b) := by
  simp [exec_rxArrive, hf]

theorem exec_read_of_canRead {f : RxBuf} (hc : s.bufCanRead f.id = true) :
    exec (.read f) s = .next { s.popped f.id with ret := some (.byte (s.front f.id)) } := by
  simp [exec_read, hc]

theorem exec_write_of_room {f : TxBuf} (hf : s.bufFull f.id = false) (b : Byte) :
    exec (.write f b) s = .next (s.push f.id b) := by
  simp [exec_write, hf]

theorem exec_txDrain_of_canRead {f : TxBuf} (hc : s.bufCanRead f.id = true) :
    exec (.txDrain f) s = .next ((s.popped f.id).handOver f (s.front f.id)) := by
  simp [exec_txDrain, hc]

end Enabled

theorem rxArrive_read_comm {s : State} {f : RxBuf} (h : RingBuf.Inv (s.cfg.size f.id) (s.buf f.id))
    (hc : s.bufCanRead f.id = true) (hf : s.bufFull f.id = false) (b : Byte) :
    execAll [.rxArrive f b, .read f] s = execAll [.read f, .rxArrive f b] s := by
  have hroom : { s.popped f.id with ret := some (.byte (s.front f.id)) : State }.bufFull f.id = false :=
    State.bufFull_popped h hc
  rw [execAll_pair (exec_rxArrive_of_room hf b) (exec_read_of_canRead (State.bufCanRead_push b hf)),
    execAll_pair (exec_read_of_canRead hc) (exec_rxArrive_of_room hroom b),
    State.front_push b hc, State.popped_push b hc, State.push_ret_comm]

theorem write_txDrain_comm {s : State} {f : TxBuf} (h : RingBuf.Inv (s.cfg.size f.id) (s.buf f.id))
    (hc : s.bufCanRead f.id = true) (hf : s.bufFull f.id = false) (b : Byte) :
    execAll [.write f b, .txDrain f] s = execAll [.txDrain f, .write f b] s := by
  have hroom : ((s.popped f.id).handOver f (s.front f.id)).bufFull f.id = false := by
    rw [State.bufFull_handOver]
    exact State.bufFull_popped h hc
  rw [execAll_pair (exec_write_of_room hf b) (exec_txDrain_of_canRead (State.bufCanRead_push b hf)),
    execAll_pair (exec_txDrain_of_canRead hc) (exec_write_of_room hroom b),
    State.front_push b hc, State.popped_push b hc, State.push_handOver]

/-- Settles O27: the slot written by the producer is not the one read by the consumer. -/
theorem producerAndConsumerCommute : Obligations.ProducerAndConsumerCommute := fun _ b h =>
  ⟨fun f hc hf => rxArrive_read_comm (h.buf_inv f.id) hc hf b,
    fun f hc hf => write_txDrain_comm (h.buf_inv f.id) hc hf b⟩

/-! ### Who moves a cursor -/

section Buffers

variable (s : State) (f g : BufId)

@[simp] theorem State.buf_handOver (d : TxBuf) (b : Byte) : (s.handOver d b).buf g = s.buf g := by
  cases d <;> rfl

@[simp] theorem State.buf_obeyHost (c : HostCommand) : (s.obeyHost c).buf g = s.buf g := by
  rw [State.obeyHost_spec]
  rfl

@[simp] theorem State.buf_obeyDome (r : DomeResponse) : (s.obeyDome r).buf g = s.buf g := by
  rw [State.obeyDome_spec]
  rfl

/-- A push moves no read cursor. -/
@[simp] theorem State.buf_push_rd (b : Byte) : ((s.push f b).buf g).rd = (s.buf g).rd := by
  by_cases hg : g = f
  · subst hg
    rw [State.buf_push_same]
  · rw [State.buf_push_ne _ _ hg]

/-- A pop moves no write cursor. -/
@[simp] theorem State.buf_popped_wr : ((s.popped f).buf g).wr = (s.buf g).wr := by
  by_cases hg : g = f
  · subst hg
    rw [State.buf_popped_same]
  · rw [State.buf_popped_ne _ hg]

@[simp] theorem State.buf_tickNext_rd : (s.tickNext.buf g).rd = (s.buf g).rd := by
  rw [State.tickNext_eq]
  cases g with
  | hrx | drx => rfl
  | htx => exact s.buf_push_rd .htx .htx s.tickReport
  | dtx =>
    show (s.tickCommand s.sel).dtx.rd = s.dtx.rd
    cases s.sel with
    | none => rfl
    | some c => exact s.buf_push_rd .dtx .dtx c.code

/-- A tick writes the transmit buffers only (R131). -/
theorem State.buf_tickNext_rx (r : RxBuf) : s.tickNext.buf r.id = s.buf r.id := by
  rw [State.tickNext_eq]
  cases r <;> rfl

variable {s f} {i : Instr} {t : State}

theorem State.eq_of_wr_push_ne {b : Byte} (h : ((s.push f b).buf g).wr ≠ (s.buf g).wr) : g = f := by
  by_contra hg
  exact h (by rw [State.buf_push_ne _ _ hg])

theorem State.eq_of_rd_popped_ne (h : ((s.popped f).buf g).rd ≠ (s.buf g).rd) : g = f := by
  by_contra hg
  exact h (by rw [State.buf_popped_ne _ hg])

/-- The producers (R50): the operations that can move a write cursor. -/
theorem Effect.wr_moved (e : Effect i s t) (h : (t.buf g).wr ≠ (s.buf g).wr) :
    i = .reset ∨ (i.ofTick = true ∧ ∀ r : RxBuf, g ≠ r.id) ∨ (∃ r b, i = .rxArrive r b ∧ g = r.id)
      ∨ ∃ d b, i = .write d b ∧ g = d.id := by
  cases e with
  | tick hi _ _ =>
    refine .inr (.inl ⟨hi, ?_⟩)
    rintro r rfl
    exact h (by rw [State.buf_tickNext_rx])
  | rxArrive _ b => exact .inr (.inr (.inl ⟨_, b, rfl, State.eq_of_wr_push_ne g h⟩))
  | write _ b => exact .inr (.inr (.inr ⟨_, b, rfl, State.eq_of_wr_push_ne g h⟩))
  | reset => exact .inl rfl
  | hostCommand | hostPoll | domeResponse | domePoll | txDrain => exact absurd (by simp) h
  | read => exact absurd (State.buf_popped_wr ..) h
  | nothing | clkCount | clkTerminal | pulse | canRead | status => exact absurd rfl h

/-- The consumers (R50): the operations that can move a read cursor. -/
theorem Effect.rd_moved (e : Effect i s t) (h : (t.buf g).rd ≠ (s.buf g).rd) :
    i = .reset ∨ (i = .hostPoll ∧ g = .hrx) ∨ (i = .domePoll ∧ g = .drx) ∨ (∃ r, i = .read r ∧ g = r.id)
      ∨ ∃ d, i = .txDrain d ∧ g = d.id := by
  cases e with
  | hostPoll _ => exact .inr (.inl ⟨rfl, State.eq_of_rd_popped_ne g (by simpa using h)⟩)
  | domePoll _ => exact .inr (.inr (.inl ⟨rfl, State.eq_of_rd_popped_ne g (by simpa using h)⟩))
  | read _ => exact .inr (.inr (.inr (.inl ⟨_, rfl, State.eq_of_rd_popped_ne g h⟩)))
  | txDrain _ => exact .inr (.inr (.inr (.inr ⟨_, rfl, State.eq_of_rd_popped_ne g (by simpa using h)⟩)))
  | reset => exact .inl rfl
  | tick | hostCommand | domeResponse | rxArrive | write => exact absurd (by simp) h
  | nothing | clkCount | clkTerminal | pulse | canRead | status => exact absurd rfl h

end Buffers

section Agents

variable {op : AgentOp} {s t : State} {g : BufId}

/-- An agent moves a write cursor by TICK, of a transmit buffer, or by an arrival on that buffer. -/
theorem AgentOp.wr_moved (h : exec op.event.instr s = .next t) (hop : op ≠ .reset)
    (hm : (t.buf g).wr ≠ (s.buf g).wr) :
    (op = .tick ∧ ∀ r : RxBuf, g ≠ r.id) ∨ ∃ r b, op = .rxArrive r b ∧ g = r.id := by
  have hmoved := (exec_effect h).wr_moved g hm
  cases op with
  | tick | rxArrive => simpa [AgentOp.event, Event.instr, Instr.ofTick] using hmoved
  | reset => exact absurd rfl hop
  | clk | pulse | hostPoll | domePoll | txDrain => simp [AgentOp.event, Event.instr, Instr.ofTick] at hmoved

/-- An agent moves a read cursor by the poll or the TX_DRAIN of that buffer. -/
theorem AgentOp.rd_moved (h : exec op.event.instr s = .next t) (hop : op ≠ .reset)
    (hm : (t.buf g).rd ≠ (s.buf g).rd) :
    (op = .hostPoll ∧ g = .hrx) ∨ (op = .domePoll ∧ g = .drx) ∨ ∃ d, op = .txDrain d ∧ g = d.id := by
  have hmoved := (exec_effect h).rd_moved g hm
  cases op with
  | hostPoll | domePoll | txDrain => simpa [AgentOp.event, Event.instr] using hmoved
  | reset => exact absurd rfl hop
  | clk | pulse | tick | rxArrive => simp [AgentOp.event, Event.instr] at hmoved

theorem RxBuf.id_injective : Function.Injective RxBuf.id := by
  intro a b h
  cases a <;> cases b <;> trivial

theorem TxBuf.id_injective : Function.Injective TxBuf.id := by
  intro a b h
  cases a <;> cases b <;> trivial

theorem TxBuf.id_ne_rxBuf_id (d : TxBuf) (r : RxBuf) : d.id ≠ r.id := by
  cases d <;> cases r <;> decide

/-- The write cursor of a receive buffer belongs to the arrivals on it. -/
theorem AgentOp.eq_rxArrive_of_wr_moved {r : RxBuf} (h : exec op.event.instr s = .next t) (hop : op ≠ .reset)
    (hm : (t.buf r.id).wr ≠ (s.buf r.id).wr) : ∃ b, op = .rxArrive r b := by
  obtain ⟨-, hne⟩ | ⟨r', b, rfl, hr⟩ := AgentOp.wr_moved h hop hm
  · exact absurd rfl (hne r)
  · exact ⟨b, by rw [RxBuf.id_injective hr]⟩

/-- The write cursor of a transmit buffer belongs to TICK. -/
theorem AgentOp.eq_tick_of_wr_moved {d : TxBuf} (h : exec op.event.instr s = .next t) (hop : op ≠ .reset)
    (hm : (t.buf d.id).wr ≠ (s.buf d.id).wr) : op = .tick := by
  obtain ⟨rfl, -⟩ | ⟨r, b, -, hr⟩ := AgentOp.wr_moved h hop hm
  · rfl
  · exact absurd hr (TxBuf.id_ne_rxBuf_id d r)

/-- The read cursor of a transmit buffer belongs to its TX_DRAIN. -/
theorem AgentOp.eq_txDrain_of_rd_moved {d : TxBuf} (h : exec op.event.instr s = .next t) (hop : op ≠ .reset)
    (hm : (t.buf d.id).rd ≠ (s.buf d.id).rd) : op = .txDrain d := by
  obtain ⟨-, hd⟩ | ⟨-, hd⟩ | ⟨d', rfl, hd⟩ := AgentOp.rd_moved h hop hm
  · exact absurd hd (TxBuf.id_ne_rxBuf_id d .hrx)
  · exact absurd hd (TxBuf.id_ne_rxBuf_id d .drx)
  · rw [TxBuf.id_injective hd]

theorem AgentOp.eq_hostPoll_of_rd_moved (h : exec op.event.instr s = .next t) (hop : op ≠ .reset)
    (hm : (t.buf .hrx).rd ≠ (s.buf .hrx).rd) : op = .hostPoll := by
  obtain ⟨rfl, -⟩ | ⟨-, hd⟩ | ⟨d, -, hd⟩ := AgentOp.rd_moved h hop hm
  · rfl
  · cases hd
  · exact absurd hd.symm (TxBuf.id_ne_rxBuf_id d .hrx)

theorem AgentOp.eq_domePoll_of_rd_moved (h : exec op.event.instr s = .next t) (hop : op ≠ .reset)
    (hm : (t.buf .drx).rd ≠ (s.buf .drx).rd) : op = .domePoll := by
  obtain ⟨-, hd⟩ | ⟨rfl, -⟩ | ⟨d, -, hd⟩ := AgentOp.rd_moved h hop hm
  · cases hd
  · rfl
  · exact absurd hd.symm (TxBuf.id_ne_rxBuf_id d .drx)

end Agents

/-- Settles O28, from the producers and consumers that can move a cursor at all. -/
theorem eachCursorHasOneWriter : Obligations.EachCursorHasOneWriter := fun _ _ _ h hop =>
  ⟨AgentOp.eq_rxArrive_of_wr_moved (r := .hrx) h hop, AgentOp.eq_hostPoll_of_rd_moved h hop,
    AgentOp.eq_rxArrive_of_wr_moved (r := .drx) h hop, AgentOp.eq_domePoll_of_rd_moved h hop,
    AgentOp.eq_tick_of_wr_moved (d := .htx) h hop, AgentOp.eq_txDrain_of_rd_moved (d := .htx) h hop,
    AgentOp.eq_tick_of_wr_moved (d := .dtx) h hop, AgentOp.eq_txDrain_of_rd_moved (d := .dtx) h hop⟩

end Sys2Proof.Machine

/-!
Proofs of the family 30_encoding.md: the decoder and the encoder of the four streams (R60 to R69) and the opcode table
(R73), the edges that PULSE stands for (R71), and what the two outgoing links carry (R62, R63).
-/

namespace Sys2Proof.Machine

/-! ### What each stream's map answers -/

theorem Instr.isCount_iff (v : Byte) : Instr.isCount v = true ↔ 1 ≤ v.toNat ∧ v.toNat ≤ 240 := by
  simp [Instr.isCount]

theorem Instr.isReserved_iff (c : Config) (v : Byte) :
    Instr.isReserved c v = true ↔ 241 ≤ v.toNat ∧ (v.toNat ≤ 254 ∨ c.hasSiren = false) := by
  simp [Instr.isReserved]

theorem Instr.isOtherDome_iff (b : Byte) :
    Instr.isOtherDome b = true ↔ b ≠ charX ∧ b ≠ charY ∧ b ≠ charZero := by
  simp [Instr.isOtherDome, charX, charY, charZero, and_assoc]

theorem byte_ne_zero_of_pos {v : Byte} (h : 1 ≤ v.toNat) : v ≠ 0#8 := by
  rintro rfl
  exact absurd h (by decide)

theorem hostCommand_of_count (c : Config) {v : Byte} (h : Instr.isCount v = true) : hostCommand c v = .arm v := by
  obtain ⟨hpos, hle⟩ := (Instr.isCount_iff v).mp h
  simp [hostCommand, byte_ne_zero_of_pos hpos, hle]

theorem hostCommand_of_reserved {c : Config} {v : Byte} (h : Instr.isReserved c v = true) :
    hostCommand c v = .reserved v := by
  obtain ⟨hge, hup⟩ := (Instr.isReserved_iff c v).mp h
  have hnot : ¬ (v = 0xFF#8 ∧ c.hasSiren = true) := by
    rintro ⟨rfl, hs⟩
    simp [hs] at hup
  rw [hostCommand, if_neg (byte_ne_zero_of_pos (by omega)), if_neg (by omega), if_neg hnot]

/-- What a dome byte can be, by its value (R64). -/
theorem domeResponse_cases (b : Byte) :
    (b = charX ∧ domeResponse b = .closedA) ∨ (b = charY ∧ domeResponse b = .closedB)
      ∨ (b = charZero ∧ domeResponse b = .closedBoth)
      ∨ (Instr.isOtherDome b = true ∧ domeResponse b = .other b) := by
  rw [Instr.isOtherDome_iff]
  unfold domeResponse
  split_ifs <;> simp_all

theorem domeResponse_of_other {b : Byte} (h : Instr.isOtherDome b = true) : domeResponse b = .other b := by
  obtain ⟨hX, hY, hZero⟩ := (Instr.isOtherDome_iff b).mp h
  simp [domeResponse, hX, hY, hZero]

/-- What a byte on the stream to the dome can be, by its value (R63). -/
theorem decodeCommand_cases (c : Config) (b : Byte) :
    (b = charA ∧ decodeCommand c b = .instr .cStepA) ∨ (b = charB ∧ decodeCommand c b = .instr .cStepB)
      ∨ (b = charR ∧ c.hasRelayReset = true ∧ decodeCommand c b = .instr .cReset)
      ∨ (b ≠ charA ∧ b ≠ charB ∧ (b = charR → c.hasRelayReset = false)
          ∧ decodeCommand c b = .rejected (.neverSent .deviceToDome b)) := by
  unfold decodeCommand
  split_ifs <;> simp_all

/-- What a byte on the stream to the host can be, by its value (R62). -/
theorem decodeStatus_cases (b : Byte) :
    (b = 0#8 ∧ decodeStatus b = .instr .sDisabled)
      ∨ (Instr.isCount b = true ∧ decodeStatus b = .instr (.sCount b))
      ∨ (b = 0xFE#8 ∧ decodeStatus b = .instr .sClosing) ∨ (b = 0xFF#8 ∧ decodeStatus b = .instr .sTriggered)
      ∨ (240 < b.toNat ∧ b ≠ 0xFE#8 ∧ b ≠ 0xFF#8 ∧ decodeStatus b = .rejected (.neverSent .deviceToHost b)) := by
  rw [Instr.isCount_iff]
  unfold decodeStatus
  split_ifs with h0 hle hclosing htriggered
  · exact .inl ⟨h0, rfl⟩
  · exact .inr (.inl ⟨⟨Nat.pos_of_ne_zero (byte_toNat_ne_zero h0), hle⟩, rfl⟩)
  · exact .inr (.inr (.inl ⟨hclosing, rfl⟩))
  · exact .inr (.inr (.inr (.inl ⟨htriggered, rfl⟩)))
  · exact .inr (.inr (.inr (.inr ⟨by omega, hclosing, htriggered, rfl⟩)))

theorem decodeStatus_of_count {v : Byte} (h : Instr.isCount v = true) : decodeStatus v = .instr (.sCount v) := by
  obtain ⟨hpos, hle⟩ := (Instr.isCount_iff v).mp h
  simp [decodeStatus, byte_ne_zero_of_pos hpos, hle]

/-! ### Decoding what was encoded -/

/-- Settles O1: a fixed byte is found by the decoder's own test for it, and an operand in its range by none before. -/
theorem decodeOfEncodeIsTheOperation : Obligations.DecodeOfEncodeIsTheOperation := by
  intro c i h
  cases i with
  | hDisable => rfl
  | hArm v => simp [encode, decode, hostCommand_of_count c h, HostCommand.instr]
  | hRsv v => simp [encode, decode, hostCommand_of_reserved h, HostCommand.instr]
  | hSiren =>
    have hs : c.hasSiren = true := h
    simp [encode, decode, hostCommand, hs, HostCommand.instr]
  | dClosedA | dClosedB | dClosedBoth => rfl
  | dOther b => simp [encode, decode, domeResponse_of_other h, DomeResponse.instr]
  | cStepA | cStepB => rfl
  | cReset =>
    have hr : c.hasRelayReset = true := h
    simp [encode, decode, decodeCommand, hr, charA, charB, charR]
  | sDisabled => rfl
  | sCount v => exact decodeStatus_of_count h
  | sClosing | sTriggered => rfl
  | clk | pulse | tick | hostPoll | domePoll | status | reset => rfl
  | rxArrive | canRead | read | write | txDrain => rfl

/-! ### Encoding what was decoded -/

theorem hostCommand_wellFormed_encode (c : Config) (v : Byte) :
    (hostCommand c v).instr.wellFormed c = true
      ∧ encode (hostCommand c v).instr = .message .hostToDevice v := by
  obtain ⟨rfl, e⟩ | ⟨h0, hle, e⟩ | ⟨rfl, hs, e⟩ | ⟨hlt, hs, e⟩ := hostCommand_cases c v <;> rw [e]
  · exact ⟨rfl, rfl⟩
  · exact ⟨(Instr.isCount_iff v).mpr ⟨Nat.pos_of_ne_zero (byte_toNat_ne_zero h0), hle⟩, rfl⟩
  · exact ⟨hs, rfl⟩
  · refine ⟨(Instr.isReserved_iff c v).mpr ⟨hlt, ?_⟩, rfl⟩
    by_cases hv : v = 255#8
    · exact .inr (hs hv)
    · exact .inl (by bv_omega)

theorem domeResponse_wellFormed_encode (c : Config) (b : Byte) :
    (domeResponse b).instr.wellFormed c = true ∧ encode (domeResponse b).instr = .message .domeToDevice b := by
  obtain ⟨rfl, e⟩ | ⟨rfl, e⟩ | ⟨rfl, e⟩ | ⟨hb, e⟩ := domeResponse_cases b <;> rw [e]
  · exact ⟨rfl, rfl⟩
  · exact ⟨rfl, rfl⟩
  · exact ⟨rfl, rfl⟩
  · exact ⟨hb, rfl⟩

theorem decodeCommand_wellFormed_encode {c : Config} {b : Byte} {i : Instr} (h : decodeCommand c b = .instr i) :
    i.wellFormed c = true ∧ encode i = .message .deviceToDome b := by
  obtain ⟨rfl, e⟩ | ⟨rfl, e⟩ | ⟨rfl, hr, e⟩ | ⟨-, -, -, e⟩ := decodeCommand_cases c b <;> rw [e] at h <;> cases h
  · exact ⟨rfl, rfl⟩
  · exact ⟨rfl, rfl⟩
  · exact ⟨hr, rfl⟩

theorem decodeStatus_wellFormed_encode (c : Config) {b : Byte} {i : Instr} (h : decodeStatus b = .instr i) :
    i.wellFormed c = true ∧ encode i = .message .deviceToHost b := by
  obtain ⟨rfl, e⟩ | ⟨hb, e⟩ | ⟨rfl, e⟩ | ⟨rfl, e⟩ | ⟨-, -, -, e⟩ := decodeStatus_cases b <;> rw [e] at h <;> cases h
  · exact ⟨rfl, rfl⟩
  · exact ⟨hb, rfl⟩
  · exact ⟨rfl, rfl⟩
  · exact ⟨rfl, rfl⟩

theorem event_wellFormed_encode (c : Config) (e : Event) :
    e.instr.wellFormed c = true ∧ encode e.instr = .event e := by
  cases e <;> exact ⟨rfl, rfl⟩

/-- Settles O2, stream by stream. -/
theorem encodeOfDecodeIsTheLine : Obligations.EncodeOfDecodeIsTheLine := by
  intro c st i h
  obtain ⟨stream, b⟩ | e := st
  · cases stream with
    | hostToDevice => cases h; exact hostCommand_wellFormed_encode c b
    | domeToDevice => cases h; exact domeResponse_wellFormed_encode c b
    | deviceToDome => exact decodeCommand_wellFormed_encode h
    | deviceToHost => exact decodeStatus_wellFormed_encode c h
  · cases h
    exact event_wellFormed_encode c e

/-! ### The opcode table -/

/-- A block whose mask leaves the low `k` bits free holds the bytes that agree with its match above them. -/
theorem and_highMask_eq_iff (b m : Byte) (k : Nat) :
    b &&& BitVec.allOnes 8 <<< k = m ↔ b.toNat / 2 ^ k * 2 ^ k = m.toNat := by
  have hle : b.toNat / 2 ^ k * 2 ^ k < 2 ^ 8 := (Nat.div_mul_le_self _ _).trans_lt b.isLt
  rw [← BitVec.shiftLeft_ushiftRight, ← BitVec.toNat_inj, BitVec.toNat_shiftLeft, BitVec.toNat_ushiftRight,
    Nat.shiftRight_eq_div_pow, Nat.shiftLeft_eq, Nat.mod_eq_of_lt hle]

theorem inBlocks_cons_iff (m : Byte) (k : Nat) (blocks : List (Byte × Byte)) (b : Byte) :
    inBlocks ((m, BitVec.allOnes 8 <<< k) :: blocks) b = true
      ↔ b.toNat / 2 ^ k * 2 ^ k = m.toNat ∨ inBlocks blocks b = true := by
  simp only [inBlocks, List.any_cons, Bool.or_eq_true, beq_iff_eq, and_highMask_eq_iff]

theorem inBlocks_nil (b : Byte) : inBlocks [] b = false := rfl

theorem inBlocks_append (xs ys : List (Byte × Byte)) (b : Byte) :
    inBlocks (xs ++ ys) b = (inBlocks xs b || inBlocks ys b) := by
  simp [inBlocks]

theorem inBlocks_oneByte_iff (m b : Byte) : inBlocks (oneByte m) b = true ↔ b = m := by
  have h := inBlocks_cons_iff m 0 [] b
  simpa [oneByte, inBlocks, BitVec.toNat_inj] using h

/-- The blocks of 1..240 cover these bytes and no other. -/
theorem inBlocks_countBlocks (v : Byte) : inBlocks countBlocks v = Instr.isCount v := by
  have hmasks : countBlocks
      = [(0x01#8, BitVec.allOnes 8 <<< 0), (0x02#8, BitVec.allOnes 8 <<< 1), (0x04#8, BitVec.allOnes 8 <<< 2),
        (0x08#8, BitVec.allOnes 8 <<< 3), (0x10#8, BitVec.allOnes 8 <<< 4), (0x20#8, BitVec.allOnes 8 <<< 5),
        (0x40#8, BitVec.allOnes 8 <<< 6), (0x80#8, BitVec.allOnes 8 <<< 6), (0xC0#8, BitVec.allOnes 8 <<< 5),
        (0xE0#8, BitVec.allOnes 8 <<< 4), (0xF0#8, BitVec.allOnes 8 <<< 0)] := by decide
  have hlt := v.isLt
  rw [Bool.eq_iff_iff, Instr.isCount_iff, hmasks]
  simp only [inBlocks_cons_iff, inBlocks_nil, BitVec.reduceToNat, Bool.false_eq_true, or_false]
  omega

/-- The blocks of 241..254 cover these bytes and no other. -/
theorem inBlocks_reservedBlocks_iff (v : Byte) :
    inBlocks reservedBlocks v = true ↔ 241 ≤ v.toNat ∧ v.toNat ≤ 254 := by
  have hmasks : reservedBlocks
      = [(0xF1#8, BitVec.allOnes 8 <<< 0), (0xF2#8, BitVec.allOnes 8 <<< 1), (0xF4#8, BitVec.allOnes 8 <<< 2),
        (0xF8#8, BitVec.allOnes 8 <<< 2), (0xFC#8, BitVec.allOnes 8 <<< 1), (0xFE#8, BitVec.allOnes 8 <<< 0)] := by
    decide
  have hlt := v.isLt
  rw [hmasks]
  simp only [inBlocks_cons_iff, inBlocks_nil, BitVec.reduceToNat, Bool.false_eq_true, or_false]
  omega

/-- The row of H.RSV, with the byte 255 where the variant has no siren (R61, R73). -/
theorem inBlocks_reservedRow (c : Config) (v : Byte) :
    inBlocks (if c.hasSiren then reservedBlocks else reservedBlocks ++ oneByte 0xFF#8) v = Instr.isReserved c v := by
  have h255 : v = 0xFF#8 ↔ v.toNat = 255 := by rw [← BitVec.toNat_inj]; rfl
  have hlt := v.isLt
  rw [Bool.eq_iff_iff, Instr.isReserved_iff]
  cases hs : c.hasSiren
  · simp only [Bool.false_eq_true, if_false, inBlocks_append, Bool.or_eq_true, inBlocks_reservedBlocks_iff,
      inBlocks_oneByte_iff, h255, or_true, and_true]
    omega
  · simp [inBlocks_reservedBlocks_iff]

/-- A row with a condition has its byte exactly where the condition holds (R73). -/
theorem inBlocks_conditional (p : Bool) (m : Byte) : inBlocks (if p then oneByte m else []) m = p := by
  cases p
  · rfl
  · exact (inBlocks_oneByte_iff m m).mpr rfl

/-- The complement list of D.OTHER (R73). -/
theorem not_contains_listed (b : Byte) :
    (!([0x30#8, 0x58#8, 0x59#8] : List Byte).contains b) = Instr.isOtherDome b := by
  rw [Bool.eq_iff_iff, Instr.isOtherDome_iff]
  simp [charX, charY, charZero]
  tauto

theorem TableRow.accepts_bytes_same (st : Stream) (blocks : List (Byte × Byte)) (b : Byte) :
    (TableRow.bytes st blocks).accepts (.message st b) = inBlocks blocks b := by
  simp [TableRow.accepts]

theorem TableRow.accepts_others_same (st : Stream) (listed : List Byte) (b : Byte) :
    (TableRow.others st listed).accepts (.message st b) = !listed.contains b := by
  simp [TableRow.accepts]

/-- Settles O7: the fixed rows hold their one byte; the ranges, the complement list and the two conditions are the
lemmas above. -/
theorem wellFormedIsTableMembership : Obligations.WellFormedIsTableMembership := by
  intro c i
  cases i with
  | hArm v => exact ((TableRow.accepts_bytes_same ..).trans (inBlocks_countBlocks v)).symm
  | hRsv v => exact ((TableRow.accepts_bytes_same ..).trans (inBlocks_reservedRow c v)).symm
  | hSiren => exact ((TableRow.accepts_bytes_same ..).trans (inBlocks_conditional c.hasSiren _)).symm
  | dOther b => exact ((TableRow.accepts_others_same ..).trans (not_contains_listed b)).symm
  | cReset => exact ((TableRow.accepts_bytes_same ..).trans (inBlocks_conditional c.hasRelayReset _)).symm
  | sCount v => exact ((TableRow.accepts_bytes_same ..).trans (inBlocks_countBlocks v)).symm
  | hDisable | dClosedA | dClosedB | dClosedBoth | cStepA | cStepB | sDisabled | sClosing | sTriggered => rfl
  | clk | pulse | tick | hostPoll | domePoll | status | reset => rfl
  | rxArrive | canRead | read | write | txDrain => rfl

/-! ### Bytes written out, and bytes never sent -/

/-- Settles O4. -/
theorem domeBytesDecodeByTheirCharacters : Obligations.DomeBytesDecodeByTheirCharacters := by
  intro c b
  refine ⟨?_, ?_, ?_, fun hX hY hZero => ?_⟩
  · rintro rfl; exact decodeOfEncodeIsTheOperation c .dClosedA rfl
  · rintro rfl; exact decodeOfEncodeIsTheOperation c .dClosedB rfl
  · rintro rfl; exact decodeOfEncodeIsTheOperation c .dClosedBoth rfl
  · exact decodeOfEncodeIsTheOperation c (.dOther b) ((Instr.isOtherDome_iff b).mpr ⟨hX, hY, hZero⟩)

/-- Settles O6: each byte is the encoding of its operation. -/
theorem sampleBytesDecode : Obligations.SampleBytesDecode := fun c =>
  ⟨decodeOfEncodeIsTheOperation c .hDisable rfl, decodeOfEncodeIsTheOperation c (.hArm 120#8) rfl,
    decodeOfEncodeIsTheOperation c (.hRsv 245#8) rfl, decodeOfEncodeIsTheOperation c .dClosedA rfl,
    decodeOfEncodeIsTheOperation c .dClosedBoth rfl, decodeOfEncodeIsTheOperation c .cStepA rfl,
    decodeOfEncodeIsTheOperation c .sClosing rfl⟩

theorem decodeStatus_of_neverSent {b : Byte} (hge : 241 ≤ b.toNat) (hle : b.toNat ≤ 253) :
    decodeStatus b = .rejected (.neverSent .deviceToHost b) := by
  obtain ⟨rfl, -⟩ | ⟨hb, -⟩ | ⟨rfl, -⟩ | ⟨rfl, -⟩ | ⟨-, -, -, e⟩ := decodeStatus_cases b
  · simp at hge
  · have := (Instr.isCount_iff b).mp hb
    omega
  · simp at hle
  · simp at hle
  · exact e

theorem decodeCommand_of_neverSent {c : Config} {b : Byte} (hA : b ≠ charA) (hB : b ≠ charB)
    (hR : b ≠ charR ∨ c.hasRelayReset = false) : decodeCommand c b = .rejected (.neverSent .deviceToDome b) := by
  obtain ⟨e, -⟩ | ⟨e, -⟩ | ⟨e, hr, -⟩ | ⟨-, -, -, e⟩ := decodeCommand_cases c b
  · exact absurd e hA
  · exact absurd e hB
  · simp [e, hr] at hR
  · exact e

theorem step_of_rejected {s : State} {e : DecodeError} (h : decode s.cfg s.nextStimulus = .rejected e) :
    step s = .refused (.undecodable e) := by
  simp [step, State.fetch, h]

/-- Settles O5. -/
theorem neverSentBytesAreRefused : Obligations.NeverSentBytesAreRefused := by
  rintro s rest st b hb hscript
  refine step_of_rejected ?_
  rw [State.nextStimulus_of_script hscript]
  obtain ⟨rfl, hge, hle⟩ | ⟨rfl, hA, hB, hR⟩ := hb
  · exact decodeStatus_of_neverSent hge hle
  · exact decodeCommand_of_neverSent hA hB hR

/-! ### Operations in a row -/

theorem execAll_append {is js : List Instr} {s t : State} (h : execAll is s = .next t) :
    execAll (is ++ js) s = execAll js t := by
  induction is generalizing s with
  | nil => cases h; rfl
  | cons i is ih =>
    obtain ⟨u, hu, -⟩ := exec_next_effect i s
    simp only [execAll, List.cons_append, hu] at h ⊢
    exact ih h

/-! ### The edges that one PULSE stands for (R71) -/

/-- One clock edge, each field by one equation (R100 to R102). -/
theorem exec_clk_eq (s : State) :
    exec .clk s = .next { s with
      tcnt := if s.tcnt = s.cfg.tickDiv - 1 then 0 else s.tcnt + 1
      tickPend := s.tickPend || decide (s.tcnt = s.cfg.tickDiv - 1)
      tickO := decide (s.tcnt = s.cfg.tickDiv - 1) } := by
  rw [exec_clk]
  split <;> simp_all [State.terminalCount_eq]

/-- `s` after `j` clock edges, for `j` up to `TICK_DIV` (before the first, `tick_o` is not yet the timer's). -/
def State.afterEdges (s : State) (j : Nat) : State :=
  { s with
    tcnt := if s.tcnt + j < s.cfg.tickDiv then s.tcnt + j else s.tcnt + j - s.cfg.tickDiv
    tickPend := s.tickPend || decide (s.cfg.tickDiv ≤ s.tcnt + j)
    tickO := decide (s.tcnt + j = s.cfg.tickDiv) }

section Edges

variable {s : State} {j : Nat}

/-- The edge that finds the terminal count is the one that makes the edges `TICK_DIV` from the count 0. -/
theorem State.afterEdges_terminal_iff (h : s.tcnt < s.cfg.tickDiv) (hj : j < s.cfg.tickDiv) :
    (s.afterEdges j).tcnt = s.cfg.tickDiv - 1 ↔ s.tcnt + (j + 1) = s.cfg.tickDiv := by
  simp only [State.afterEdges]
  split <;> omega

/-- One more edge. -/
theorem exec_clk_afterEdges (h : s.tcnt < s.cfg.tickDiv) (hj : j < s.cfg.tickDiv) :
    exec .clk (s.afterEdges j) = .next (s.afterEdges (j + 1)) := by
  have hlast := State.afterEdges_terminal_iff h hj
  have htcnt : (if (s.afterEdges j).tcnt = s.cfg.tickDiv - 1 then 0 else (s.afterEdges j).tcnt + 1)
      = (s.afterEdges (j + 1)).tcnt := by
    simp only [hlast]
    simp only [State.afterEdges]
    split_ifs <;> omega
  have hpend : ((s.afterEdges j).tickPend || decide ((s.afterEdges j).tcnt = s.cfg.tickDiv - 1))
      = (s.afterEdges (j + 1)).tickPend := by
    have hle : s.cfg.tickDiv ≤ s.tcnt + (j + 1)
        ↔ s.cfg.tickDiv ≤ s.tcnt + j ∨ s.tcnt + (j + 1) = s.cfg.tickDiv := by omega
    simp only [hlast]
    simp only [State.afterEdges, hle, Bool.decide_or, Bool.or_assoc]
  have hout : decide ((s.afterEdges j).tcnt = s.cfg.tickDiv - 1) = (s.afterEdges (j + 1)).tickO := by
    simp only [hlast]
    rfl
  calc exec .clk (s.afterEdges j)
      = .next { s.afterEdges j with
          tcnt := (s.afterEdges (j + 1)).tcnt, tickPend := (s.afterEdges (j + 1)).tickPend
          tickO := (s.afterEdges (j + 1)).tickO } := by
        rw [exec_clk_eq, ← htcnt, ← hpend, ← hout]
        rfl
    _ = .next (s.afterEdges (j + 1)) := rfl

/-- An edge does not read `tick_o`. -/
theorem exec_clk_afterEdges_zero (h : s.tcnt < s.cfg.tickDiv) : exec .clk (s.afterEdges 0) = exec .clk s := by
  have hnot : ¬ s.cfg.tickDiv ≤ s.tcnt := by omega
  simp [exec_clk_eq, State.afterEdges, h, hnot]

/-- The edges in a row, by induction on their number. -/
theorem execAll_clks (h : s.tcnt < s.cfg.tickDiv) (hj : j < s.cfg.tickDiv) :
    execAll (List.replicate (j + 1) .clk) s = .next (s.afterEdges (j + 1)) := by
  induction j with
  | zero =>
    have hfirst : exec .clk s = .next (s.afterEdges 1) := by
      rw [← exec_clk_afterEdges_zero h, exec_clk_afterEdges h hj]
    simp [execAll, hfirst]
  | succ j ih =>
    rw [List.replicate_succ', execAll_append (ih (by omega))]
    simp [execAll, exec_clk_afterEdges h hj]

end Edges

/-- Settles O31. -/
theorem tickDivEdgesMakeOnePulse : Obligations.TickDivEdgesMakeOnePulse := by
  intro s j h hpos hj
  obtain ⟨j, rfl⟩ := Nat.exists_eq_succ_of_ne_zero (Nat.ne_of_gt hpos)
  exact execAll_clks h hj

/-! ### A script and its operations

The rest is about the links: a run of a script is the run of its operations (R71), and what each operation hands to a
transport (R88). From these follow the reports of whole ticks (R72, R130) and the bytes that the links can carry (R62,
R63). -/

/-- What the operations read and what they leave for the next: all but the one-cycle outputs, the returned value and
the script. -/
def State.block (s : State) : State :=
  { s with htxOut := none, dtxOut := none, tickO := false, ret := none, script := [] }

section Block

variable (s : State)

theorem State.block_afterFetch {st : Stimulus} {rest : List Stimulus} (h : s.script = st :: rest) :
    s.afterFetch.block = s.block := by
  rw [State.afterFetch_of_script h]
  rfl

theorem State.block_ite {p : Prop} [Decidable p] {t u t' u' : State} (ht : t'.block = t.block)
    (hu : u'.block = u.block) : (if p then t' else u').block = (if p then t else u).block := by
  split <;> assumption

theorem State.bufCanRead_block (f : BufId) : s.block.bufCanRead f = s.bufCanRead f := by cases f <;> rfl
theorem State.front_block (f : BufId) : s.block.front f = s.front f := by cases f <;> rfl

theorem State.block_obeyHost (c : HostCommand) : (s.block.obeyHost c).block = (s.obeyHost c).block := by
  cases c with
  | disable => rfl
  | arm v => exact State.block_ite rfl rfl
  | siren => exact State.block_ite rfl rfl
  | reserved v => rfl

theorem State.block_obeyDome (r : DomeResponse) : (s.block.obeyDome r).block = (s.obeyDome r).block := by
  cases r <;> rfl

theorem State.tickCommand_block_dtx (o : Option Command) : (s.block.tickCommand o).dtx = (s.tickCommand o).dtx := by
  cases o <;> rfl

theorem State.block_tickNext : s.block.tickNext.block = s.tickNext.block := by
  rw [State.tickNext_eq s.block, State.tickNext_eq s, s.tickCommand_block_dtx]
  rfl

theorem State.block_tickRun : s.block.tickRun.block = s.tickRun.block :=
  State.block_ite s.block_tickNext rfl

end Block

/-- An operation does not read what `State.block` leaves out. -/
theorem exec_block (i : Instr) (s : State) :
    ∃ t u, exec i s = .next t ∧ exec i s.block = .next u ∧ u.block = t.block := by
  cases i with
  | hDisable | hRsv | dClosedA | dClosedB | dClosedBoth | dOther => exact ⟨_, _, rfl, rfl, rfl⟩
  | hArm v => exact ⟨_, _, rfl, rfl, s.block_obeyHost (.arm v)⟩
  | hSiren => exact ⟨_, _, rfl, rfl, s.block_obeyHost .siren⟩
  | cStepA | cStepB | cReset => exact ⟨_, _, rfl, rfl, State.block_ite s.block_tickRun rfl⟩
  | sDisabled | sCount | sClosing | sTriggered => exact ⟨_, _, rfl, rfl, State.block_ite s.block_tickRun rfl⟩
  | clk => exact ⟨_, _, rfl, rfl, State.block_ite rfl rfl⟩
  | pulse | status | reset => exact ⟨_, _, rfl, rfl, rfl⟩
  | tick => exact ⟨_, _, rfl, rfl, s.block_tickRun⟩
  | rxArrive f b => cases f <;> exact ⟨_, _, rfl, rfl, State.block_ite rfl rfl⟩
  | canRead f => exact ⟨_, _, rfl, rfl, rfl⟩
  | read f => cases f <;> exact ⟨_, _, rfl, rfl, State.block_ite rfl rfl⟩
  | write f b => cases f <;> exact ⟨_, _, rfl, rfl, State.block_ite rfl rfl⟩
  | txDrain f => cases f <;> exact ⟨_, _, rfl, rfl, State.block_ite rfl rfl⟩
  | hostPoll =>
    exact ⟨_, _, rfl, rfl, State.block_ite ((s.popped .hrx).block_obeyHost (hostCommand s.cfg (s.front .hrx))) rfl⟩
  | domePoll =>
    exact ⟨_, _, rfl, rfl, State.block_ite ((s.popped .drx).block_obeyDome (domeResponse (s.front .drx))) rfl⟩

/-- States that differ only in what no operation reads stay so. -/
theorem exec_of_block_eq {i : Instr} {s t s' : State} (h : exec i s = .next t) (hb : s'.block = s.block) :
    ∃ t', exec i s' = .next t' ∧ t'.block = t.block := by
  obtain ⟨u, v, hu, hv, huv⟩ := exec_block i s
  obtain ⟨u', v', hu', hv', huv'⟩ := exec_block i s'
  obtain rfl : u = t := by simpa [hu] using h
  obtain rfl : v' = v := by simpa [hb, hv] using hv'.symm
  exact ⟨u', hu', huv'.symm.trans huv⟩

/-- No operation writes the script. -/
theorem Effect.script_eq {i : Instr} {s t : State} (e : Effect i s t) : t.script = s.script := by
  cases e with
  | tick => rw [State.tickNext_eq]
  | hostCommand => rw [State.obeyHost_spec]
  | hostPoll =>
    rw [State.obeyHost_spec]
    exact State.popped_script ..
  | domeResponse => rw [State.obeyDome_spec]
  | domePoll =>
    rw [State.obeyDome_spec]
    exact State.popped_script ..
  | nothing | clkCount | clkTerminal | pulse | canRead | status | reset => rfl
  | rxArrive | read | write | txDrain => simp

/-! ### What an operation hands to a transport -/

/-- The byte on the transport of `d` in this step (R31). -/
def State.txOut (s : State) : TxBuf → Option Byte
  | .htx => s.htxOut
  | .dtx => s.dtxOut

section TxOut

variable (s : State) (d : TxBuf)

@[simp] theorem State.txOut_push (f : BufId) (b : Byte) : (s.push f b).txOut d = s.txOut d := by
  cases d <;> simp [State.txOut]

@[simp] theorem State.txOut_popped (f : BufId) : (s.popped f).txOut d = s.txOut d := by
  cases d <;> simp [State.txOut]

@[simp] theorem State.txOut_obeyHost (c : HostCommand) : (s.obeyHost c).txOut d = s.txOut d := by
  rw [State.obeyHost_spec]
  cases d <;> rfl

@[simp] theorem State.txOut_obeyDome (r : DomeResponse) : (s.obeyDome r).txOut d = s.txOut d := by
  rw [State.obeyDome_spec]
  cases d <;> rfl

@[simp] theorem State.txOut_tickNext : s.tickNext.txOut d = s.txOut d := by
  rw [State.tickNext_eq]
  cases d <;> rfl

@[simp] theorem State.txOut_handOver (b : Byte) : (s.handOver d b).txOut d = some b := by
  cases d <;> rfl

theorem State.txOut_handOver_ne {d f : TxBuf} (h : f ≠ d) (b : Byte) : (s.handOver f b).txOut d = s.txOut d := by
  cases d <;> cases f <;> trivial

theorem State.txOut_afterFetch : s.afterFetch.txOut d = none := by
  rw [State.afterFetch_spec]
  cases d <;> rfl

end TxOut

/-- Only TX_DRAIN of its buffer hands a byte to a transport (R88). -/
theorem Effect.txOut_eq_none {i : Instr} {s t : State} {d : TxBuf} (e : Effect i s t) (hi : i ≠ .txDrain d)
    (hs : s.txOut d = none) : t.txOut d = none := by
  cases e with
  | nothing => exact hs
  | @txDrain f _ hc =>
    rw [State.txOut_handOver_ne _ (fun hf => hi (by rw [hf])), State.txOut_popped, hs]
  | clkCount | clkTerminal | pulse | canRead | status => exact hs
  | read => exact (State.txOut_popped ..).trans hs
  | reset => cases d <;> rfl
  | tick | hostCommand | hostPoll | domeResponse | domePoll | rxArrive | write => simpa using hs

/-- What the operation `i`, performed in `s`, hands to the transport of `d` (R88). -/
def sentBy (d : TxBuf) (i : Instr) (s : State) : List Byte :=
  if i = .txDrain d ∧ s.bufCanRead d.id = true then [s.front d.id] else []

theorem txOut_exec {i : Instr} {s t : State} {d : TxBuf} (h : exec i s = .next t) (hs : s.txOut d = none) :
    (t.txOut d).toList = sentBy d i s := by
  by_cases hi : i = .txDrain d
  · subst hi
    rw [exec_txDrain] at h
    cases h
    split <;> simp [sentBy, *]
  · simp [sentBy, hi, (exec_effect h).txOut_eq_none hi hs]

theorem sentBy_of_block_eq (d : TxBuf) (i : Instr) {s u : State} (h : s.block = u.block) :
    sentBy d i s = sentBy d i u := by
  unfold sentBy
  rw [← s.bufCanRead_block, ← s.front_block, h, u.bufCanRead_block, u.front_block]

/-- What a sequence of operations hands to the transport of `d`, in order. -/
def sent (d : TxBuf) : List Instr → State → List Byte
  | [], _ => []
  | i :: rest, s =>
    match exec i s with
    | .next t => sentBy d i s ++ sent d rest t
    | .fault _ => []
    | .refused _ => []

theorem sent_cons {d : TxBuf} {i : Instr} {s t : State} (h : exec i s = .next t) (rest : List Instr) :
    sent d (i :: rest) s = sentBy d i s ++ sent d rest t := by
  simp [sent, h]

theorem sent_append {d : TxBuf} {is : List Instr} {s t : State} (h : execAll is s = .next t) (js : List Instr) :
    sent d (is ++ js) s = sent d is s ++ sent d js t := by
  induction is generalizing s with
  | nil => cases h; rfl
  | cons i is ih =>
    obtain ⟨u, hu, -⟩ := exec_next_effect i s
    simp only [execAll, hu] at h
    rw [List.cons_append, sent_cons hu, sent_cons hu, ih h, List.append_assoc]

/-! ### The trace of a link is what the script's operations send -/

/-- `hostTrace` and `domeTrace` in one. -/
def linkTrace (d : TxBuf) : Nat → State → List Byte
  | 0, _ => []
  | n + 1, s =>
    match step s with
    | .next t => (t.txOut d).toList ++ linkTrace d n t
    | .fault _ => []
    | .refused _ => []

theorem hostTrace_eq_linkTrace (n : Nat) (s : State) : hostTrace n s = linkTrace .htx n s := by
  induction n generalizing s with
  | zero => rfl
  | succ n ih => cases h : step s <;> simp [hostTrace, linkTrace, h, ih, State.txOut]

theorem domeTrace_eq_linkTrace (n : Nat) (s : State) : domeTrace n s = linkTrace .dtx n s := by
  induction n generalizing s with
  | zero => rfl
  | succ n ih => cases h : step s <;> simp [domeTrace, linkTrace, h, ih, State.txOut]

theorem step_of_encode {s : State} {i : Instr} {rest : List Stimulus} (hwf : i.wellFormed s.cfg = true)
    (h : s.script = encode i :: rest) : step s = exec i s.afterFetch :=
  step_of_decode (by rw [State.nextStimulus_of_script h]; exact decodeOfEncodeIsTheOperation _ _ hwf)

/-- A scripted run and the run of the script's operations go in step: the states agree on `State.block`. -/
theorem linkTrace_of_block_eq {d : TxBuf} {l : List Instr} {s u : State} (hwf : ∀ i ∈ l, i.wellFormed s.cfg = true)
    (hscript : s.script = l.map encode) (hb : s.block = u.block) : linkTrace d l.length s = sent d l u := by
  induction l generalizing s u with
  | nil => rfl
  | cons i l ih =>
    have hfetch : s.afterFetch.block = u.block := (s.block_afterFetch hscript).trans hb
    obtain ⟨v, hv, -⟩ := exec_next_effect i u
    obtain ⟨t, ht, htv⟩ := exec_of_block_eq hv hfetch
    have hstep : step s = .next t := (step_of_encode (hwf i List.mem_cons_self) hscript).trans ht
    have hout : (t.txOut d).toList = sentBy d i u :=
      (txOut_exec ht (s.txOut_afterFetch d)).trans (sentBy_of_block_eq d i hfetch)
    have htscript : t.script = l.map encode := by
      rw [(exec_effect ht).script_eq, State.afterFetch_of_script hscript]
    have htcfg : t.cfg = s.cfg := by rw [(exec_effect ht).cfg_eq, State.afterFetch_of_script hscript]
    have hrest := ih (fun j hj => htcfg ▸ hwf j (List.mem_cons_of_mem i hj)) htscript htv
    simp [linkTrace, hstep, hout, hrest, sent_cons hv]

theorem hostTrace_of_script {l : List Instr} {s : State} (hwf : ∀ i ∈ l, i.wellFormed s.cfg = true)
    (h : s.script = l.map encode) : hostTrace l.length s = sent .htx l s := by
  rw [hostTrace_eq_linkTrace, linkTrace_of_block_eq hwf h rfl]

/-! ### The bytes in the transmit buffers -/

/-- The bytes of the table of a link (R62, R63). -/
def TableByte (c : Config) : TxBuf → Byte → Prop
  | .htx, b => b.toNat ≤ 240 ∨ 254 ≤ b.toNat
  | .dtx, b => b = 0x41#8 ∨ b = 0x42#8 ∨ (b = 0x52#8 ∧ c.hasRelayReset = true)

/-- The bytes that the tick of `s` pushes into a transmit buffer (R126, R130). -/
def State.TickSends (s : State) : TxBuf → Byte → Prop
  | .htx, b => b = s.tickReport
  | .dtx, b => ∃ c, s.sel = some c ∧ b = c.code

/-- No status byte is 241 to 253 (R151). -/
theorem State.Inv.tableByte_statusNow {s : State} (h : s.Inv) : TableByte s.cfg .htx s.statusNow := by
  unfold State.statusNow statusByte
  split
  · exact .inr le_rfl
  · split
    · exact .inr (by decide)
    · rename_i ht
      exact .inl (h.hb_range.resolve_right fun hs => ht (h.trig_iff.mpr hs))

theorem State.tickReport_eq (s : State) :
    s.tickReport = if s.cfg.statusSample = .entry then s.statusNow else s.tickNext.statusNow := by
  have hexit : s.tickNext.statusNow = statusByte s.hbNext s.trigNext s.actNext := by
    rw [State.tickNext_eq]
    rfl
  rw [hexit, State.tickReport]
  cases s.cfg.statusSample <;> rfl

theorem State.tableByte_code {s : State} {c : Command} (h : s.sel = some c) : TableByte s.cfg .dtx c.code := by
  obtain ⟨e, -⟩ | ⟨e, -, hr⟩ | ⟨e, -⟩ | ⟨e, -⟩ := s.sel_cases <;> rw [e] at h <;> cases h
  · have hunit : s.cfg.hasRelayReset = true := by
      by_contra hno
      simp [State.rrstCount, hno] at hr
    exact .inr (.inr ⟨rfl, hunit⟩)
  · exact .inl rfl
  · exact .inr (.inl rfl)

theorem State.Inv.tableByte_of_tickSends {s : State} (h : s.Inv) {d : TxBuf} {b : Byte} (hb : s.TickSends d b) :
    TableByte s.cfg d b := by
  cases d with
  | htx =>
    obtain rfl : b = s.tickReport := hb
    rw [State.tickReport_eq]
    split
    · exact h.tableByte_statusNow
    · simpa using h.tickNext.tableByte_statusNow
  | dtx =>
    obtain ⟨c, hc, rfl⟩ := hb
    exact State.tableByte_code hc

theorem Memory.mem_of_read {m : Memory} {i : Nat} {b : Byte} (h : Memory.read m i = some b) : (i, b) ∈ m := by
  induction m with
  | nil => simp [Memory.read] at h
  | cons p m ih =>
    obtain ⟨a, v⟩ := p
    simp only [Memory.read] at h
    split at h
    · rename_i hi
      cases h
      simp [hi]
    · exact List.mem_cons_of_mem _ (ih h)

theorem State.mem_buf_push {s : State} {f g : BufId} {b : Byte} {c : Host.Cell} (h : c ∈ ((s.push f b).buf g).mem) :
    c ∈ (s.buf g).mem ∨ (g = f ∧ c.2 = b) := by
  by_cases hg : g = f
  · subst hg
    rw [State.buf_push_same] at h
    obtain rfl | hc := Memory.mem_write h
    · exact .inr ⟨rfl, rfl⟩
    · exact .inl hc
  · rw [State.buf_push_ne _ _ hg] at h
    exact .inl h

@[simp] theorem State.buf_popped_mem (s : State) (f g : BufId) : ((s.popped f).buf g).mem = (s.buf g).mem := by
  by_cases hg : g = f
  · subst hg
    rw [State.buf_popped_same]
  · rw [State.buf_popped_ne _ hg]

theorem State.buf_tickNext_htx (s : State) : s.tickNext.buf .htx = (s.push .htx s.tickReport).buf .htx := by
  rw [State.tickNext_eq]
  rfl

theorem State.buf_tickNext_dtx (s : State) : s.tickNext.buf .dtx = (s.tickCommand s.sel).buf .dtx := by
  rw [State.tickNext_eq]
  rfl

theorem State.mem_buf_tickNext {s : State} {d : TxBuf} {c : Host.Cell} (h : c ∈ (s.tickNext.buf d.id).mem) :
    c ∈ (s.buf d.id).mem ∨ s.TickSends d c.2 := by
  cases d with
  | htx =>
    rw [TxBuf.id_htx, State.buf_tickNext_htx] at h
    exact (State.mem_buf_push h).imp id And.right
  | dtx =>
    rw [TxBuf.id_dtx, State.buf_tickNext_dtx] at h
    cases hs : s.sel with
    | none => exact .inl (by simpa [hs] using h)
    | some k =>
      rw [hs, State.tickCommand_some] at h
      exact (State.mem_buf_push h).imp id fun hc => ⟨k, hs, hc.2⟩

/-- A byte comes into a transmit buffer by a tick or by WRITE (R85, R133). -/
theorem Effect.mem_txBuf {i : Instr} {s t : State} {d : TxBuf} {c : Host.Cell} (e : Effect i s t)
    (hc : c ∈ (t.buf d.id).mem) :
    c ∈ (s.buf d.id).mem ∨ s.TickSends d c.2 ∨ i = .write d c.2 := by
  cases e with
  | tick => exact (State.mem_buf_tickNext hc).imp id .inl
  | rxArrive => exact (State.mem_buf_push hc).imp id fun h => absurd h.1 (TxBuf.id_ne_rxBuf_id d _)
  | write =>
    refine (State.mem_buf_push hc).imp id fun h => .inr ?_
    rw [TxBuf.id_injective h.1, h.2]
  | reset => cases d <;> cases hc
  | hostCommand | hostPoll | domeResponse | domePoll | txDrain => exact .inl (by simpa using hc)
  | read => exact .inl (by rwa [← State.buf_popped_mem])
  | nothing | clkCount | clkTerminal | pulse | canRead | status => exact .inl hc

/-! ### Agents send bytes of the tables only -/

/-- Every byte in a transmit buffer is one of its link's table. -/
def State.HoldsTableBytes (s : State) : Prop :=
  ∀ (d : TxBuf), ∀ c ∈ (s.buf d.id).mem, TableByte s.cfg d c.2

theorem Effect.holdsTableBytes {i : Instr} {s t : State} (e : Effect i s t) (hi : ∀ d b, i ≠ .write d b) (h : s.Inv)
    (hs : s.HoldsTableBytes) : t.HoldsTableBytes := by
  intro d c hc
  rw [e.cfg_eq]
  obtain hmem | hsends | hwrite := e.mem_txBuf hc
  · exact hs d c hmem
  · exact h.tableByte_of_tickSends hsends
  · exact absurd hwrite (hi d c.2)

/-- What TX_DRAIN hands over stood in its buffer (R46). -/
theorem State.Inv.tableByte_of_sentBy {s : State} (h : s.Inv) (hs : s.HoldsTableBytes) {d : TxBuf} {i : Instr}
    {b : Byte} (hb : b ∈ sentBy d i s) : TableByte s.cfg d b := by
  unfold sentBy at hb
  split at hb
  · rename_i hsend
    obtain ⟨v, hv⟩ := (h.buf_inv d.id).front_written ((s.bufCanRead_iff d.id).mp hsend.2)
    obtain rfl : b = v := by simpa [(State.pop_written hv).1] using hb
    exact hs d _ (Memory.mem_of_read hv)
  · cases hb

theorem AgentOp.instr_ne_write (op : AgentOp) (d : TxBuf) (b : Byte) : op.event.instr ≠ .write d b := by
  cases op <;> simp [AgentOp.event, Event.instr]

theorem AgentOp.instr_ne_hArm (op : AgentOp) (v : Byte) : op.event.instr ≠ .hArm v := by
  cases op <;> simp [AgentOp.event, Event.instr]

/-- Whatever the agents do, a link carries bytes of its table, by induction on their operations. -/
theorem tableByte_of_sent {ops : List AgentOp} {s : State} (h : s.Inv) (hs : s.HoldsTableBytes) {d : TxBuf} {b : Byte}
    (hb : b ∈ sent d (ops.map fun op => op.event.instr) s) : TableByte s.cfg d b := by
  induction ops generalizing s with
  | nil => cases hb
  | cons op ops ih =>
    obtain ⟨t, ht, e⟩ := exec_next_effect op.event.instr s
    rw [List.map_cons, sent_cons ht, List.mem_append] at hb
    obtain hnow | hlater := hb
    · exact h.tableByte_of_sentBy hs hnow
    · have hinv : t.Inv := e.inv (fun v hv => absurd hv (AgentOp.instr_ne_hArm op v)) h
      simpa [e.cfg_eq] using ih hinv (e.holdsTableBytes (AgentOp.instr_ne_write op) h hs) hlater

theorem State.resetWith_holdsTableBytes (c : Config) (script : List Stimulus) :
    { State.resetWith c with script := script : State }.HoldsTableBytes := by
  intro d p hp
  cases d <;> cases hp

/-- A script of the agents' operations from reset. -/
theorem tableByte_of_linkTrace {c : Config} (hc : c.wf = true) (ops : List AgentOp) {d : TxBuf} {b : Byte}
    (hb : b ∈ linkTrace d ops.length { State.resetWith c with script := ops.map fun op => .event op.event }) :
    TableByte c d b := by
  have hwf : ∀ i ∈ ops.map fun op => op.event.instr, i.wellFormed c = true := by
    intro i hi
    obtain ⟨op, -, rfl⟩ := List.mem_map.mp hi
    exact (event_wellFormed_encode c op.event).1
  have hscript : (ops.map fun op => Stimulus.event op.event) = (ops.map fun op => op.event.instr).map encode := by
    rw [List.map_map]
    exact List.map_congr_left fun op _ => (event_wellFormed_encode c op.event).2.symm
  rw [← List.length_map (fun op : AgentOp => op.event.instr), linkTrace_of_block_eq hwf hscript rfl] at hb
  exact tableByte_of_sent ((State.resetWith_inv hc).of_same rfl) (State.resetWith_holdsTableBytes c _) hb

/-! ### One whole tick (R72) -/

/-- `s` after TX_DRAIN of `d`. -/
def State.drained (s : State) (d : TxBuf) : State :=
  if s.bufCanRead d.id then (s.popped d.id).handOver d (s.front d.id) else s

theorem exec_txDrain_drained (d : TxBuf) (s : State) : exec (.txDrain d) s = .next (s.drained d) := rfl

section Drained

variable (s : State) (d : TxBuf)

@[simp] theorem State.drained_cfg : (s.drained d).cfg = s.cfg := by unfold State.drained; split <;> simp
@[simp] theorem State.drained_hb : (s.drained d).hb = s.hb := by unfold State.drained; split <;> simp
@[simp] theorem State.drained_trig : (s.drained d).trig = s.trig := by unfold State.drained; split <;> simp
@[simp] theorem State.drained_act : (s.drained d).act = s.act := by unfold State.drained; split <;> simp

theorem State.drained_statusNow : (s.drained d).statusNow = s.statusNow := by simp [State.statusNow]

theorem State.buf_drained_ne {g : BufId} (h : g ≠ d.id) : (s.drained d).buf g = s.buf g := by
  unfold State.drained
  split
  · rw [State.buf_handOver, State.buf_popped_ne _ h]
  · rfl

theorem State.bufCanRead_drained_ne {g : BufId} (h : g ≠ d.id) : (s.drained d).bufCanRead g = s.bufCanRead g := by
  simp only [State.bufCanRead, State.buf_drained_ne _ _ h]

variable {s d}

theorem State.Inv.drained (h : s.Inv) : (s.drained d).Inv := by
  unfold State.drained
  split
  · exact (h.popped ‹_›).of_same (by cases d <;> rfl)
  · exact h

theorem State.bufCanRead_eq_false_iff {f : BufId} : s.bufCanRead f = false ↔ (s.buf f).rd = (s.buf f).wr := by
  simp [State.bufCanRead]

theorem State.drained_of_empty (h : s.bufCanRead d.id = false) : s.drained d = s := by
  simp [State.drained, h]

/-- An empty buffer has room. -/
theorem State.Inv.bufFull_of_empty (h : s.Inv) {f : BufId} (he : s.bufCanRead f = false) : s.bufFull f = false := by
  have hsize := Config.two_le_size h.cfg_wf f
  have hwr := (h.buf_inv f).wr_lt
  rw [State.bufFull_eq_false_iff, State.bufCanRead_eq_false_iff.mp he, ring_add hwr (by omega)]
  split <;> omega

variable {t : State} {b : Byte}

/-- The byte pushed into an empty buffer is the oldest there. -/
theorem State.front_of_push (he : s.bufCanRead d.id = false) (ht : t.buf d.id = (s.push d.id b).buf d.id) :
    t.front d.id = b := by
  have hread : Memory.read (t.buf d.id).mem (t.buf d.id).rd = some b := by
    rw [ht, State.buf_push_same]
    simp [State.bufCanRead_eq_false_iff.mp he]
  exact (State.pop_written hread).1

theorem State.bufCanRead_of_push (hf : s.bufFull d.id = false) (ht : t.buf d.id = (s.push d.id b).buf d.id) :
    t.bufCanRead d.id = true := by
  rw [State.bufCanRead, ht]
  exact State.bufCanRead_push b hf

/-- The byte pushed into an empty buffer drains, and the buffer is empty again. -/
theorem State.bufCanRead_drained_of_push (he : s.bufCanRead d.id = false) (hcfg : t.cfg = s.cfg)
    (ht : t.buf d.id = (s.push d.id b).buf d.id) : (t.drained d).bufCanRead d.id = false := by
  unfold State.drained
  split
  · rw [State.bufCanRead_eq_false_iff, State.buf_handOver, State.buf_popped_same, ht, State.buf_push_same, hcfg,
      State.bufCanRead_eq_false_iff.mp he]
  · exact Bool.eq_false_iff.mpr ‹_›

end Drained

/-- `s` after one whole tick (R72) that is not held. -/
def State.wholeTick (s : State) : State := (s.raiseTick.tickNext.drained .htx).drained .dtx

@[simp] theorem State.wholeTick_cfg (s : State) : s.wholeTick.cfg = s.cfg := by simp [State.wholeTick]

theorem State.wholeTick_statusNow (s : State) : s.wholeTick.statusNow = s.raiseTick.tickNext.statusNow := by
  rw [State.wholeTick, State.drained_statusNow, State.drained_statusNow]

/-- The report of a whole tick, by the states at its entry and its exit (R130). -/
theorem State.tickReport_wholeTick (s : State) :
    s.tickReport = if s.cfg.statusSample = .entry then s.statusNow else s.wholeTick.statusNow := by
  rw [State.wholeTick_statusNow]
  exact s.raiseTick.tickReport_eq

/-- A state between two whole ticks with draining transports. -/
structure State.Settled (s : State) : Prop where
  inv : s.Inv
  htx_empty : s.bufCanRead .htx = false
  dtx_empty : s.bufCanRead .dtx = false

section WholeTick

variable {s : State} (h : s.Settled)
include h

/-- The tick of a settled state is not held (R120). -/
theorem State.Settled.exec_tick : exec .tick s.raiseTick = .next s.raiseTick.tickNext :=
  exec_tick_run rfl (h.inv.bufFull_of_empty h.htx_empty) (.inr (h.inv.bufFull_of_empty h.dtx_empty))

theorem State.Settled.execAll_macroT : execAll macroT s = .next s.wholeTick := by
  simp [macroT, execAll, exec_pulse, h.exec_tick, exec_txDrain_drained, State.wholeTick]

theorem State.Settled.htx_drained : s.wholeTick.bufCanRead .htx = false := by
  rw [State.wholeTick, State.bufCanRead_drained_ne _ _ (by decide)]
  exact State.bufCanRead_drained_of_push (s := s.raiseTick) (d := .htx) h.htx_empty (by simp) (State.buf_tickNext_htx _)

/-- The command of the tick drains; where there is none, DTX has stayed empty. -/
theorem State.Settled.dtx_drained : s.wholeTick.bufCanRead .dtx = false := by
  have hbuf : (s.raiseTick.tickNext.drained .htx).buf .dtx = (s.raiseTick.tickCommand s.raiseTick.sel).buf .dtx := by
    rw [State.buf_drained_ne _ _ (by decide), State.buf_tickNext_dtx]
  cases hs : s.raiseTick.sel with
  | none =>
    have hempty : (s.raiseTick.tickNext.drained .htx).bufCanRead .dtx = false := by
      rw [State.bufCanRead, hbuf, hs]
      exact h.dtx_empty
    rw [State.wholeTick, State.drained_of_empty hempty, hempty]
  | some c =>
    rw [hs] at hbuf
    exact State.bufCanRead_drained_of_push (s := s.raiseTick) (d := .dtx) h.dtx_empty (by simp) hbuf

theorem State.Settled.wholeTick : s.wholeTick.Settled :=
  have hraise : s.raiseTick.Inv := h.inv.of_same rfl
  ⟨hraise.tickNext.drained.drained, h.htx_drained, h.dtx_drained⟩

/-- A whole tick hands its report to the host's transport, and nothing else. -/
theorem State.Settled.sent_macroT : sent .htx macroT s = [s.tickReport] := by
  have hbuf := s.raiseTick.buf_tickNext_htx
  have hread : s.raiseTick.tickNext.bufCanRead .htx = true :=
    State.bufCanRead_of_push (d := .htx) (h.inv.bufFull_of_empty h.htx_empty) hbuf
  have hfront : s.raiseTick.tickNext.front .htx = s.tickReport := State.front_of_push (d := .htx) h.htx_empty hbuf
  rw [macroT, sent_cons (exec_pulse s), sent_cons h.exec_tick, sent_cons (exec_txDrain_drained .htx _),
    sent_cons (exec_txDrain_drained .dtx _)]
  simp [sentBy, sent, hread, hfront]

end WholeTick

/-! ### Whole ticks in a row -/

theorem length_macroTs (n : Nat) : (macroTs n).length = 4 * n := by
  induction n with
  | zero => rfl
  | succ n ih =>
    rw [macroTs, List.length_append, ih]
    simp [macroT]
    omega

theorem wellFormed_of_mem_macroTs {c : Config} {n : Nat} {i : Instr} (hi : i ∈ macroTs n) : i.wellFormed c = true := by
  induction n with
  | zero => cases hi
  | succ n ih =>
    obtain ht | hrest := List.mem_append.mp hi
    · simp only [macroT, List.mem_cons, List.not_mem_nil, or_false] at ht
      obtain rfl | rfl | rfl | rfl := ht <;> rfl
    · exact ih hrest

theorem State.wholeTick_iterate_cfg (s : State) (n : Nat) : (State.wholeTick^[n] s).cfg = s.cfg := by
  induction n with
  | zero => rfl
  | succ n ih => rw [Function.iterate_succ_apply', State.wholeTick_cfg, ih]

/-- `T*n` from a settled state is `n` whole ticks. -/
theorem State.Settled.execAll_macroTs {s : State} (h : s.Settled) (n : Nat) :
    execAll (macroTs n) s = .next (State.wholeTick^[n] s) := by
  induction n generalizing s with
  | zero => rfl
  | succ n ih => rw [macroTs, execAll_append h.execAll_macroT, ih h.wholeTick, Function.iterate_succ_apply]

/-- `T*n` from a settled state sends the host the reports of its ticks in order. -/
theorem State.Settled.sent_macroTs {s : State} (h : s.Settled) (n : Nat) :
    sent .htx (macroTs n) s = (List.range n).map fun k => (State.wholeTick^[k] s).tickReport := by
  induction n generalizing s with
  | zero => rfl
  | succ n ih =>
    rw [macroTs, sent_append h.execAll_macroT, h.sent_macroT, ih h.wholeTick, List.range_succ_eq_map, List.map_cons,
      List.map_map]
    rfl

theorem State.Settled.hostTrace_macroTs {s : State} (h : s.Settled) {n : Nat}
    (hscript : s.script = (macroTs n).map encode) :
    hostTrace (4 * n) s = (List.range n).map fun k => (State.wholeTick^[k] s).tickReport := by
  rw [← length_macroTs, hostTrace_of_script (fun _ => wellFormed_of_mem_macroTs) hscript, h.sent_macroTs]

/-- Settles O59: the trace of `n` whole ticks is the list of their reports, and a byte on a link has stood in its
transmit buffer, which holds bytes of the link's table only. -/
theorem linksCarryOneReportATickAndTableBytesOnly : Obligations.LinksCarryOneReportATickAndTableBytesOnly := by
  refine ⟨fun s n hinv hhtx hdtx hscript => ?_, fun c ops hc => ⟨fun b hb => ?_, fun b hb => ?_⟩⟩
  · have h : s.Settled := ⟨hinv, hhtx, hdtx⟩
    rw [h.hostTrace_macroTs hscript]
    refine ⟨by simp, fun k hk => ⟨_, _, h.execAll_macroTs k, h.execAll_macroTs (k + 1), ?_⟩⟩
    rw [Function.iterate_succ_apply', ← s.wholeTick_iterate_cfg k, ← State.tickReport_wholeTick]
    simp [hk]
  · exact tableByte_of_linkTrace (d := .htx) hc ops (hostTrace_eq_linkTrace .. ▸ hb)
  · exact tableByte_of_linkTrace (d := .dtx) hc ops (domeTrace_eq_linkTrace .. ▸ hb)

end Sys2Proof.Machine

/-!
Proofs of the family 40_bytechannel.md: what RX_ARRIVE, CANREAD, READ, WRITE and TX_DRAIN do (R82 to R88), and that the
operations of one clock cycle are an interleaving (R89, R176).
-/

namespace Sys2Proof

/-- The agents, one for each row of R178. -/
inductive Agent where
  | timer
  | tickHandler
  | mainLoop
  | receiveSide (f : RxBuf)
  | transmitSide (f : TxBuf)
  | reset

/-- The agent whose operation it is (R178). -/
def AgentOp.agent : AgentOp → Agent
  | .clk => .timer
  | .pulse => .timer
  | .tick => .tickHandler
  | .hostPoll => .mainLoop
  | .domePoll => .mainLoop
  | .rxArrive f _ => .receiveSide f
  | .txDrain f => .transmitSide f
  | .reset => .reset

end Sys2Proof

namespace Sys2Proof.Machine

/-! ### The operations of the byte channel -/

/-- Settles O21: an arrival with room is a `push`, of which `push_spec` says all. -/
theorem arrivalIsPushedOrDiscarded : Obligations.ArrivalIsPushedOrDiscarded := fun s f b =>
  ⟨fun hf => ⟨_, exec_rxArrive_of_room hf b, s.push_spec f.id b⟩, fun hf => by rw [exec_rxArrive, if_pos hf]⟩

/-- Settles O24: a WRITE with room is a `push`, of which `push_spec` says all. -/
theorem writeIsPushedOrHolds : Obligations.WriteIsPushedOrHolds := fun s f b =>
  ⟨fun hf => ⟨_, exec_write_of_room hf b, s.push_spec f.id b⟩, fun hf => by rw [exec_write, if_pos hf]⟩

/-- Settles O22: the value returned is `bufCanRead`. -/
theorem canReadReturnsWhetherCursorsDiffer : Obligations.CanReadReturnsWhetherCursorsDiffer := fun s f =>
  ⟨s.bufCanRead f.id, exec_canRead f s, s.bufCanRead_iff f.id⟩

/-- Settles O23: a READ that does not hold is a pop, of a slot that has been written or of one that has not. -/
theorem readReturnsTheOldestByteOrHolds : Obligations.ReadReturnsTheOldestByteOrHolds := by
  intro s f
  refine ⟨fun b hc hw => ?_, fun hc hw => ⟨s.front f.id, ?_⟩, fun hc => ?_⟩
  · obtain ⟨hfront, hpopped⟩ := State.pop_written hw
    rw [exec_read_of_canRead hc, hfront, hpopped]
  · obtain ⟨-, hpopped⟩ := State.pop_unwritten hw
    rw [exec_read_of_canRead hc, hpopped]
  · simp [exec_read, hc]

/-- A byte is handed to the buffer's own transport and to no other (R31, R88). -/
theorem State.handOver_eq (s : State) (f : TxBuf) (b : Byte) :
    s.handOver f b
      = { s with
          htxOut := if f = .htx then some b else s.htxOut
          dtxOut := if f = .dtx then some b else s.dtxOut } := by
  cases f <;> rfl

/-- Settles O25: a TX_DRAIN of a buffer that is not empty is a pop, as READ is, and the byte is handed over. -/
theorem drainHandsOverTheOldestByte : Obligations.DrainHandsOverTheOldestByte := by
  intro s f
  refine ⟨fun b hc hw => ?_, fun hc hw => ⟨s.front f.id, ?_⟩, fun hc => ?_⟩
  · obtain ⟨hfront, hpopped⟩ := State.pop_written hw
    rw [exec_txDrain_of_canRead hc, hfront, hpopped, State.handOver_eq, State.setBuf_htxOut, State.setBuf_dtxOut]
  · obtain ⟨-, hpopped⟩ := State.pop_unwritten hw
    rw [exec_txDrain_of_canRead hc, hpopped, State.handOver_eq, State.setBuf_htxOut, State.setBuf_dtxOut]
  · simp [exec_txDrain, hc]

/-! ### What an agent can take from another: nothing

A cursor that moves leaves its buffer readable, if it is the write cursor, and with room, if it is the read cursor. Each
cursor has one writer (R50), so what one agent waits for is not taken away by another. -/

section Cursors

variable {op : AgentOp} {s t : State} {g : BufId}

theorem State.bufCanRead_congr (hbuf : t.buf g = s.buf g) : t.bufCanRead g = s.bufCanRead g := by
  simp only [State.bufCanRead, hbuf]

theorem State.bufFull_congr (hcfg : t.cfg = s.cfg) (hbuf : t.buf g = s.buf g) : t.bufFull g = s.bufFull g := by
  simp only [State.bufFull, hcfg, hbuf]

/-- After a tick that moved a transmit buffer's write cursor a byte is there: the tick was not held (R120). -/
theorem State.bufCanRead_tickNext (hh : s.tickHeld = false) (hm : (s.tickNext.buf g).wr ≠ (s.buf g).wr) :
    s.tickNext.bufCanRead g = true := by
  obtain ⟨hhtx, hdtx⟩ := (State.tickHeld_iff s).mp hh
  cases g with
  | hrx => exact absurd (congrArg RingBuf.wr (s.buf_tickNext_rx .hrx)) hm
  | drx => exact absurd (congrArg RingBuf.wr (s.buf_tickNext_rx .drx)) hm
  | htx => exact State.bufCanRead_of_push (d := .htx) hhtx s.buf_tickNext_htx
  | dtx =>
    have hbuf := s.buf_tickNext_dtx
    cases hs : s.sel with
    | none => exact absurd (by rw [hbuf, hs, State.tickCommand_none]) hm
    | some c =>
      rw [hs, State.tickCommand_some] at hbuf
      exact State.bufCanRead_of_push (d := .dtx) (hdtx.resolve_left (by simp [hs])) hbuf

theorem AgentOp.bufCanRead_of_wr_moved (h : exec op.event.instr s = .next t) (hop : op ≠ .reset)
    (hm : (t.buf g).wr ≠ (s.buf g).wr) : t.bufCanRead g = true := by
  obtain ⟨rfl, -⟩ | ⟨r, b, rfl, rfl⟩ := AgentOp.wr_moved h hop hm
  · obtain rfl : s.tickRun = t := by simpa [AgentOp.event, Event.instr, exec_tick] using h
    obtain ⟨-, hh, e⟩ | ⟨-, e⟩ := s.tickRun_cases <;> rw [e] at hm ⊢
    exacts [State.bufCanRead_tickNext hh hm, absurd rfl hm]
  · cases hf : s.bufFull r.id with
    | true =>
      obtain rfl : s = t := by simpa [AgentOp.event, Event.instr, exec_rxArrive, hf] using h
      exact absurd rfl hm
    | false =>
      obtain rfl : s.push r.id b = t := by simpa [AgentOp.event, Event.instr, exec_rxArrive, hf] using h
      exact State.bufCanRead_push b hf

theorem State.bufFull_of_popped (hs : s.Inv) {f : BufId} (hc : s.bufCanRead f = true) (hcfg : t.cfg = s.cfg)
    (hbuf : t.buf g = (s.popped f).buf g) (hm : (t.buf g).rd ≠ (s.buf g).rd) : t.bufFull g = false := by
  obtain rfl : g = f := State.eq_of_rd_popped_ne g (hbuf ▸ hm)
  rw [State.bufFull_congr (hcfg.trans (s.popped_cfg g).symm) hbuf]
  exact State.bufFull_popped (hs.buf_inv g) hc

theorem Effect.bufFull_of_rd_moved {i : Instr} (e : Effect i s t) (hs : s.Inv) (hi : i ≠ .reset)
    (hm : (t.buf g).rd ≠ (s.buf g).rd) : t.bufFull g = false := by
  have hcfg := e.cfg_eq
  cases e with
  | hostPoll hc => exact State.bufFull_of_popped hs hc hcfg (State.buf_obeyHost ..) hm
  | domePoll hc => exact State.bufFull_of_popped hs hc hcfg (State.buf_obeyDome ..) hm
  | read hc => exact State.bufFull_of_popped hs hc hcfg rfl hm
  | txDrain hc => exact State.bufFull_of_popped hs hc hcfg (State.buf_handOver ..) hm
  | reset => exact absurd rfl hi
  | tick | hostCommand | domeResponse | rxArrive | write => exact absurd (by simp) hm
  | nothing | clkCount | clkTerminal | pulse | canRead | status => exact absurd rfl hm

/-- A byte that awaits its consumer goes on waiting while the read cursor stays. -/
theorem AgentOp.bufCanRead_kept (h : exec op.event.instr s = .next t) (hop : op ≠ .reset)
    (hrd : (t.buf g).rd = (s.buf g).rd) (hc : s.bufCanRead g = true) : t.bufCanRead g = true := by
  by_cases hwr : (t.buf g).wr = (s.buf g).wr
  · simpa [State.bufCanRead, hrd, hwr] using hc
  · exact AgentOp.bufCanRead_of_wr_moved h hop hwr

/-- Room for a producer stays while the write cursor stays. -/
theorem Effect.bufFull_kept {i : Instr} (e : Effect i s t) (hs : s.Inv) (hi : i ≠ .reset)
    (hwr : (t.buf g).wr = (s.buf g).wr) (hf : s.bufFull g = false) : t.bufFull g = false := by
  by_cases hrd : (t.buf g).rd = (s.buf g).rd
  · simpa [State.bufFull, e.cfg_eq, hrd, hwr] using hf
  · exact e.bufFull_of_rd_moved hs hi hrd

end Cursors

/-! ### No operation but a tick makes a command due -/

section Sel

variable {s t : State}

/-- When a command is due (R121). -/
theorem State.sel_isSome_iff :
    s.sel.isSome = true ↔ s.act = true ∧ (s.rrstCount ≠ 0#8 ∨ s.stepsA ≠ 0#8 ∨ s.stepsB ≠ 0#8) := by
  obtain ⟨e, hn | ⟨hr, hA, hB⟩⟩ | ⟨e, ha, hr⟩ | ⟨e, ha, -, hA⟩ | ⟨e, ha, -, -, hB⟩ := s.sel_cases <;> simp [*]

theorem State.sel_isSome_mono (hcfg : t.cfg = s.cfg) (hrrst : t.rrst = s.rrst) (hact : t.act = true → s.act = true)
    (hA : t.stepsA ≠ 0#8 → s.stepsA ≠ 0#8) (hB : t.stepsB ≠ 0#8 → s.stepsB ≠ 0#8) (h : t.sel.isSome = true) :
    s.sel.isSome = true := by
  obtain ⟨ha, hd⟩ := State.sel_isSome_iff.mp h
  have hcount : t.rrstCount = s.rrstCount := by simp only [State.rrstCount, hcfg, hrrst]
  exact State.sel_isSome_iff.mpr ⟨hact ha, hd.imp (hcount ▸ ·) (Or.imp hA hB)⟩

/-- No host command starts a close sequence (R110 to R113). -/
theorem State.act_of_obeyHost {c : HostCommand} (h : (s.obeyHost c).act = true) : s.act = true := by
  cases c with
  | disable => cases h
  | arm v => simpa using h
  | siren => simpa using h
  | reserved v => exact h

/-- A dome response leaves a step counter or zeroes it, so it makes no step due (R140 to R143). -/
theorem State.steps_of_obeyDome (r : DomeResponse) :
    ((s.obeyDome r).stepsA ≠ 0#8 → s.stepsA ≠ 0#8) ∧ ((s.obeyDome r).stepsB ≠ 0#8 → s.stepsB ≠ 0#8) := by
  obtain ⟨hA, hB⟩ := s.obeyDome_steps r
  exact ⟨fun h => hA.resolve_right h ▸ h, fun h => hB.resolve_right h ▸ h⟩

theorem Effect.sel_isSome_of {i : Instr} (e : Effect i s t) (hi : i.ofTick = false) (hr : i ≠ .reset)
    (h : t.sel.isSome = true) : s.sel.isSome = true := by
  cases e with
  | tick ht => simp [hi] at ht
  | reset => exact absurd rfl hr
  | hostCommand c => exact State.sel_isSome_mono (by simp) (by simp) State.act_of_obeyHost (by simp) (by simp) h
  | hostPoll =>
    exact State.sel_isSome_mono (by simp) (by simp) (fun ha => by simpa using State.act_of_obeyHost ha) (by simp)
      (by simp) h
  | domeResponse r =>
    obtain ⟨hA, hB⟩ := s.steps_of_obeyDome r
    exact State.sel_isSome_mono (by simp) (by simp) (by simp) hA hB h
  | domePoll =>
    obtain ⟨hA, hB⟩ := (s.popped .drx).steps_of_obeyDome (Sys2Proof.domeResponse (s.front .drx))
    exact State.sel_isSome_mono (by simp) (by simp) (by simp) (by simpa using hA) (by simpa using hB) h
  | nothing | clkCount | clkTerminal | pulse | canRead | status => exact h
  | rxArrive | read | write | txDrain =>
    exact State.sel_isSome_mono (by simp) (by simp) (by simp) (by simp) (by simp) h

/-- Only a tick takes a pending tick (R21). -/
theorem Effect.tickPend_kept {i : Instr} (e : Effect i s t) (hi : i.ofTick = false) (hr : i ≠ .reset)
    (h : s.tickPend = true) : t.tickPend = true := by
  cases e with
  | tick ht => simp [hi] at ht
  | reset => exact absurd rfl hr
  | clkTerminal | pulse => rfl
  | _ => simpa using h

end Sel

/-! ### No agent disables another's operation (R50, R89) -/

/-- `op` is enabled and, where it is an arrival, its byte is not lost. -/
def State.Ready (s : State) (op : AgentOp) : Prop :=
  s.enabled op = true ∧ ∀ f b, op = .rxArrive f b → s.bufFull f.id = false

section Ready

variable {op op' : AgentOp} {s t : State}

theorem State.ready_rxArrive_iff {f : RxBuf} {b : Byte} : s.Ready (.rxArrive f b) ↔ s.bufFull f.id = false := by
  simp [State.Ready, State.enabled]

theorem State.enabled_tick_iff : s.enabled .tick = true ↔ s.tickPend = true ∧ s.bufFull .htx = false
    ∧ (s.sel = none ∨ s.bufFull .dtx = false) := by
  rw [← State.tickHeld_iff]
  simp [State.enabled]

theorem AgentOp.instr_ne_reset (h : op ≠ .reset) : op.event.instr ≠ .reset := by
  cases op with
  | reset => exact absurd rfl h
  | clk | pulse | tick | hostPoll | domePoll | rxArrive | txDrain => nofun

theorem AgentOp.ofTick_eq_false (h : op ≠ .tick) : op.event.instr.ofTick = false := by
  cases op with
  | tick => exact absurd rfl h
  | clk | pulse | hostPoll | domePoll | rxArrive | txDrain | reset => rfl

/-- The tick stays enabled: it loses neither its request, nor room for its report and its command, and a command that
was not due does not become so. -/
theorem AgentOp.tick_kept (hs : s.Inv) (h : exec op.event.instr s = .next t) (hop : op ≠ .reset) (hne : op ≠ .tick)
    (hen : s.enabled .tick = true) : t.enabled .tick = true := by
  have e := exec_effect h
  have hi := AgentOp.ofTick_eq_false hne
  have hr := AgentOp.instr_ne_reset hop
  have hroom : ∀ d : TxBuf, s.bufFull d.id = false → t.bufFull d.id = false := fun d =>
    e.bufFull_kept hs hr (by_contra fun hm => hne (AgentOp.eq_tick_of_wr_moved h hop hm))
  have hsel : s.sel = none → t.sel = none := fun h0 => by
    have := e.sel_isSome_of hi hr
    simpa [h0] using this
  obtain ⟨hp, hhtx, hdtx⟩ := State.enabled_tick_iff.mp hen
  exact State.enabled_tick_iff.mpr ⟨e.tickPend_kept hi hr hp, hroom .htx hhtx, hdtx.imp hsel (hroom .dtx)⟩

/-- An operation of one agent leaves another agent's operation enabled, and an arrival its room. -/
theorem State.Ready.kept (hs : s.Inv) (h : exec op.event.instr s = .next t) (hop : op ≠ .reset)
    (hne : op.agent ≠ op'.agent) (hr : s.Ready op') : t.Ready op' := by
  obtain ⟨hen, hroom⟩ := hr
  cases op' with
  | clk | pulse | reset => exact ⟨rfl, nofun⟩
  | tick =>
    have htick : op ≠ .tick := by rintro rfl; exact hne rfl
    exact ⟨AgentOp.tick_kept hs h hop htick hen, nofun⟩
  | hostPoll =>
    have hrd : (t.buf .hrx).rd = (s.buf .hrx).rd :=
      by_contra fun hm => hne (congrArg AgentOp.agent (AgentOp.eq_hostPoll_of_rd_moved h hop hm))
    exact ⟨AgentOp.bufCanRead_kept h hop hrd hen, nofun⟩
  | domePoll =>
    have hrd : (t.buf .drx).rd = (s.buf .drx).rd :=
      by_contra fun hm => hne (congrArg AgentOp.agent (AgentOp.eq_domePoll_of_rd_moved h hop hm))
    exact ⟨AgentOp.bufCanRead_kept h hop hrd hen, nofun⟩
  | txDrain d =>
    have hrd : (t.buf d.id).rd = (s.buf d.id).rd :=
      by_contra fun hm => hne (congrArg AgentOp.agent (AgentOp.eq_txDrain_of_rd_moved h hop hm))
    exact ⟨AgentOp.bufCanRead_kept h hop hrd hen, nofun⟩
  | rxArrive f b =>
    have hwr : (t.buf f.id).wr = (s.buf f.id).wr := by_contra fun hm => by
      obtain ⟨b', rfl⟩ := AgentOp.eq_rxArrive_of_wr_moved h hop hm
      exact hne rfl
    have hkept := (exec_effect h).bufFull_kept hs (AgentOp.instr_ne_reset hop) hwr (hroom f b rfl)
    exact State.ready_rxArrive_iff.mpr hkept

/-- Operations of different agents, none but the last of them a RESET, that are all ready at the start: each is ready
when its turn comes. By induction on those before it. -/
theorem State.Inv.ready_in_turn {before after : List AgentOp} (hs : s.Inv)
    (hready : ∀ o ∈ before ++ op :: after, s.Ready o)
    (hpair : (before ++ op :: after).Pairwise fun a b => a.agent ≠ .reset ∧ a.agent ≠ b.agent) :
    ∃ t, execAll (before.map fun o => o.event.instr) s = .next t ∧ t.Ready op := by
  induction before generalizing s with
  | nil => exact ⟨s, rfl, hready op List.mem_cons_self⟩
  | cons o rest ih =>
    obtain ⟨hfirst, hrest⟩ := List.pairwise_cons.mp hpair
    obtain ⟨u, hu, e⟩ := exec_next_effect o.event.instr s
    have huInv : u.Inv := e.inv (fun v hv => absurd hv (AgentOp.instr_ne_hArm o v)) hs
    have huReady : ∀ x ∈ rest ++ op :: after, u.Ready x := fun x hx => by
      obtain ⟨hreset, hagent⟩ := hfirst x hx
      have ho : o ≠ .reset := by rintro rfl; exact hreset rfl
      exact (hready x (List.mem_cons_of_mem o hx)).kept hs hu ho hagent
    simpa [execAll, hu] using ih huInv huReady hrest

end Ready

/-! ### The operations of a clock cycle -/

section Cycle

variable {op : AgentOp} {s : State}

theorem State.mem_portArrive_iff {f : RxBuf} {o : Option Byte} :
    op ∈ s.portArrive f o ↔ s.bufFull f.id = false ∧ ∃ b, o = some b ∧ op = .rxArrive f b := by
  unfold State.portArrive
  cases hf : s.bufFull f.id <;> cases o <;> simp [State.arrival]

theorem State.mem_portDrain_iff {f : TxBuf} {ready : Bool} :
    op ∈ s.portDrain f ready ↔ ready = true ∧ s.bufCanRead f.id = true ∧ op = .txDrain f := by
  unfold State.portDrain
  cases ready <;> cases hc : s.bufCanRead f.id <;> simp [State.enabled, hc]

/-- What the controller does in a cycle (R176): nothing, or the first of its operations that is enabled. -/
theorem State.controllerOp_cases (s : State) :
    (s.enabled .tick = true ∧ s.controllerOp = [.tick])
      ∨ (s.enabled .tick = false ∧ s.enabled .hostPoll = true ∧ s.controllerOp = [.hostPoll])
      ∨ (s.enabled .tick = false ∧ s.enabled .hostPoll = false ∧ s.enabled .domePoll = true
          ∧ s.controllerOp = [.domePoll])
      ∨ (s.enabled .tick = false ∧ s.enabled .hostPoll = false ∧ s.enabled .domePoll = false
          ∧ s.controllerOp = []) := by
  unfold State.controllerOp
  cases s.enabled .tick <;> cases s.enabled .hostPoll <;> cases s.enabled .domePoll <;> simp

theorem State.ready_of_mem_controllerOp (h : op ∈ s.controllerOp) : s.Ready op := by
  obtain ⟨hen, e⟩ | ⟨-, hen, e⟩ | ⟨-, -, hen, e⟩ | ⟨-, -, -, e⟩ := s.controllerOp_cases <;> rw [e] at h
  · cases List.mem_singleton.mp h
    exact ⟨hen, nofun⟩
  · cases List.mem_singleton.mp h
    exact ⟨hen, nofun⟩
  · cases List.mem_singleton.mp h
    exact ⟨hen, nofun⟩
  · cases h

/-- Each operation of a cycle is chosen because it is ready at the start of the cycle (R89). -/
theorem State.ready_of_mem_cycleOps {inp : Inputs} (h : op ∈ s.cycleOps inp) : s.Ready op := by
  unfold State.cycleOps at h
  split at h
  · cases List.mem_singleton.mp h
    exact ⟨rfl, nofun⟩
  · simp only [List.mem_append, State.mem_portArrive_iff, State.mem_portDrain_iff, List.mem_singleton] at h
    obtain ((((⟨hf, b, -, rfl⟩ | ⟨hf, b, -, rfl⟩) | ⟨-, hc, rfl⟩) | ⟨-, hc, rfl⟩) | hctl) | rfl := h
    · exact State.ready_rxArrive_iff.mpr hf
    · exact State.ready_rxArrive_iff.mpr hf
    · exact ⟨hc, nofun⟩
    · exact ⟨hc, nofun⟩
    · exact State.ready_of_mem_controllerOp hctl
    · exact ⟨rfl, nofun⟩

/-! Each part of a cycle holds at most one operation, of its own agent. -/

theorem State.portArrive_agents (f : RxBuf) (o : Option Byte) :
    ((s.portArrive f o).map AgentOp.agent).Sublist [.receiveSide f] := by
  unfold State.portArrive
  cases s.bufFull f.id <;> cases o <;> simp [State.arrival, AgentOp.agent]

theorem State.portDrain_agents (f : TxBuf) (ready : Bool) :
    ((s.portDrain f ready).map AgentOp.agent).Sublist [.transmitSide f] := by
  unfold State.portDrain
  split <;> simp [AgentOp.agent]

theorem State.controllerOp_agents : (s.controllerOp.map AgentOp.agent).Sublist [.tickHandler, .mainLoop] := by
  obtain ⟨-, e⟩ | ⟨-, -, e⟩ | ⟨-, -, -, e⟩ | ⟨-, -, -, e⟩ := s.controllerOp_cases <;> simp [e, AgentOp.agent]

/-- Operations in the order of R176, at most one of each agent and no RESET. -/
theorem pairwise_of_agents_sublist {ops : List AgentOp}
    (h : (ops.map AgentOp.agent).Sublist [.receiveSide .hrx, .receiveSide .drx, .transmitSide .htx, .transmitSide .dtx,
      .tickHandler, .mainLoop, .timer]) :
    ops.Pairwise fun a b => a.agent ≠ .reset ∧ a.agent ≠ b.agent := by
  have hagents : (ops.map AgentOp.agent).Pairwise fun a b => a ≠ .reset ∧ a ≠ b := .sublist h (by simp)
  exact List.pairwise_map.mp hagents

/-- The operations of a cycle belong to different agents; RESET stands alone (R176, R190). -/
theorem State.cycleOps_agents (inp : Inputs) :
    (s.cycleOps inp).Pairwise fun a b => a.agent ≠ .reset ∧ a.agent ≠ b.agent := by
  unfold State.cycleOps
  split
  · exact List.pairwise_singleton ..
  · have hports := (((s.portArrive_agents .hrx inp.hrx).append (s.portArrive_agents .drx inp.drx)).append
      (s.portDrain_agents .htx inp.htxReady)).append (s.portDrain_agents .dtx inp.dtxReady)
    apply pairwise_of_agents_sublist
    simpa [AgentOp.agent] using (hports.append s.controllerOp_agents).append (List.Sublist.refl [Agent.timer])

end Cycle

/-- Settles O57: a cycle's operations are ready at its start and belong to different agents, and no agent disables
another's operation. -/
theorem clockCycleIsAnInterleaving : Obligations.ClockCycleIsAnInterleaving := by
  intro s inp before after op hs hops
  obtain ⟨t, ht, hen, hroom⟩ := hs.ready_in_turn (hops ▸ fun o => s.ready_of_mem_cycleOps)
    (hops ▸ s.cycleOps_agents inp)
  exact ⟨t, ht, hen, hroom⟩

end Sys2Proof.Machine

/-!
Proofs of the family 41_timer.md: the clock edge (R100, R101) and the one-deep latch that a pulse sets (R102, R105).
-/

namespace Sys2Proof.Machine

section Timer

variable {s : State}

/-! ### The two branches of a clock edge -/

theorem exec_clk_of_terminal (h : s.tcnt = s.cfg.tickDiv - 1) : exec .clk s = .next s.terminalCount := by
  rw [exec_clk, if_pos h]

theorem exec_clk_of_not_terminal (h : s.tcnt ≠ s.cfg.tickDiv - 1) :
    exec .clk s = .next { s with tcnt := s.tcnt + 1, tickO := false } := by
  rw [exec_clk, if_neg h]

/-! ### A pulse that finds the tick pending -/

/-- The latch is one deep: a request made while one is set is merged with it (R102). -/
@[simp] theorem State.raiseTick_raiseTick (s : State) : s.raiseTick.raiseTick = s.raiseTick := rfl

theorem execAll_pulse (is : List Instr) (s : State) : execAll (.pulse :: is) s = execAll is s.raiseTick := by
  rw [execAll, exec_pulse]

/-- Two pulses in a row are one pulse to whatever follows them, a TICK or not. -/
theorem execAll_pulse_pulse (is : List Instr) (s : State) :
    execAll (.pulse :: .pulse :: is) s = execAll (.pulse :: is) s := by
  rw [execAll_pulse, execAll_pulse, State.raiseTick_raiseTick, ← execAll_pulse]

end Timer

/-- Settles O29: an edge takes the branch of R100 that its count selects, and the terminal count is a tick pulse. -/
theorem clockEdgeCountsOrPulses : Obligations.ClockEdgeCountsOrPulses := by
  intro s
  constructor
  · intro (h : s.tcnt = s.cfg.tickDiv - 1)
    rw [exec_clk_of_terminal h, State.terminalCount_eq]
  · intro (h : s.tcnt ≠ s.cfg.tickDiv - 1)
    exact exec_clk_of_not_terminal h

/-- Settles O30: PULSE is `raiseTick`, which a second pulse finds done. -/
theorem pulseLatchesOneTick : Obligations.PulseLatchesOneTick := fun s =>
  ⟨exec_pulse s, execAll_pulse_pulse [.tick] s⟩

end Sys2Proof.Machine

/-!
Proofs of the family 42_host_commands.md: the host commands and their dispatch (R110 to R114), the siren's run over
whole ticks (R113, R128, R153), and what a disable stops (R110, R126).
-/

namespace Sys2Proof.Machine

/-! ### The dispatch of a host byte -/

theorem decode_hostToDevice (c : Config) (v : Byte) :
    decode c (.message .hostToDevice v) = .instr (hostCommand c v).instr := rfl

theorem hostCommand_siren {c : Config} (h : c.hasSiren = true) : hostCommand c 255#8 = .siren := by
  simp [hostCommand, h]

/-- Settles O3. -/
theorem hostBytesDecodeByTheirRanges : Obligations.HostBytesDecodeByTheirRanges := by
  intro c v
  rw [decode_hostToDevice]
  refine ⟨?_, fun hpos hle => ?_, ?_, fun hge hup => ?_⟩
  · rintro rfl
    rfl
  · rw [hostCommand_of_count c ((Instr.isCount_iff v).mpr ⟨hpos, hle⟩)]
    rfl
  · rintro rfl hs
    rw [hostCommand_siren hs]
    rfl
  · rw [hostCommand_of_reserved ((Instr.isReserved_iff c v).mpr ⟨hge, hup⟩)]
    rfl

/-! ### The commands -/

section Commands

variable {s : State} {v : Byte}

theorem State.arm_of_trig (h : s.trig = true) : s.arm v = s := by simp [State.arm, h]

theorem State.arm_of_not_trig (h : s.trig = false) : s.arm v = { s with hb := v } := by simp [State.arm, h]

theorem State.setSiren_of_hasSiren (h : s.cfg.hasSiren = true) : s.setSiren v = { s with siren := v } := by
  rw [State.setSiren, if_pos h]

theorem State.setSiren_of_no_siren (h : s.cfg.hasSiren = false) : s.setSiren v = s := by simp [State.setSiren, h]

/-- The siren output where there is a siren (R153). -/
theorem State.sirenO_iff (h : s.cfg.hasSiren = true) : s.sirenO = true ↔ s.siren ≠ 0#8 := by
  simp [State.sirenO, State.sirenCount, h]

/-- The siren output where there is none (R16). -/
theorem State.sirenO_of_no_siren (h : s.cfg.hasSiren = false) : s.sirenO = false := by
  simp [State.sirenO, State.sirenCount, h]

end Commands

/-- Settles O16: the relay output is the cleared active flag, the status byte the cleared counter. -/
theorem disableClearsCounterTriggerAndActive : Obligations.DisableClearsCounterTriggerAndActive := fun s =>
  ⟨s.disable, exec_hDisable s, rfl, rfl, rfl⟩

/-- Settles O17. -/
theorem armSetsTheCounterUnlessTriggered : Obligations.ArmSetsTheCounterUnlessTriggered := by
  intro s v
  rw [exec_hArm]
  exact ⟨fun h => by rw [State.arm_of_not_trig h], fun h => by rw [State.arm_of_trig h]⟩

/-- Settles O18. -/
theorem reservedCommandChangesNothing : Obligations.ReservedCommandChangesNothing := fun s v => exec_hRsv v s

/-- Settles O19. -/
theorem sirenCommandLoadsTheSiren : Obligations.SirenCommandLoadsTheSiren := by
  intro s
  rw [exec_hSiren]
  constructor
  · intro hs
    have harm : s.armSiren = { s with siren := s.cfg.sirenArmSteps } := State.setSiren_of_hasSiren hs
    exact ⟨_, congrArg _ harm, rfl, (State.sirenO_iff (s := { s with siren := s.cfg.sirenArmSteps }) hs).mpr⟩
  · intro hs
    have harm : s.armSiren = s := State.setSiren_of_no_siren hs
    exact ⟨by rw [harm], State.sirenO_of_no_siren hs⟩

/-! ### A whole tick, field by field -/

/-- TX_DRAIN writes the transmit buffers, their outputs and the free draws. -/
theorem State.drained_spec (s : State) (d : TxBuf) :
    s.drained d
      = { s with
          htx := (s.drained d).htx, dtx := (s.drained d).dtx, htxOut := (s.drained d).htxOut
          dtxOut := (s.drained d).dtxOut, draws := (s.drained d).draws } := by
  unfold State.drained
  split
  · cases d <;> rfl
  · rfl

/-- A whole tick gives each variable of the controller its value of R131; the drains write none of them. -/
theorem State.wholeTick_spec (s : State) :
    s.wholeTick
      = { s with
          hb := s.hbNext, trig := s.trigNext, act := s.actNext, stepsA := s.stepsANext, stepsB := s.stepsBNext
          gate := s.sel.isSome, blink := !s.blink, phase := s.phaseNext
          rrst := if s.cfg.hasRelayReset then s.rrstNext else s.rrst
          siren := if s.cfg.hasSiren then s.sirenNext else s.siren
          tickPend := false
          htx := s.wholeTick.htx, dtx := s.wholeTick.dtx, htxOut := s.wholeTick.htxOut
          dtxOut := s.wholeTick.dtxOut, draws := s.wholeTick.draws } := by
  rw [State.wholeTick, State.drained_spec, State.drained_spec s.raiseTick.tickNext, State.tickNext_eq]
  rfl

section Fields

variable (s : State)

@[simp] theorem State.wholeTick_hb : s.wholeTick.hb = s.hbNext := by rw [State.wholeTick_spec]
@[simp] theorem State.wholeTick_trig : s.wholeTick.trig = s.trigNext := by rw [State.wholeTick_spec]
@[simp] theorem State.wholeTick_stepsA : s.wholeTick.stepsA = s.stepsANext := by rw [State.wholeTick_spec]
@[simp] theorem State.wholeTick_stepsB : s.wholeTick.stepsB = s.stepsBNext := by rw [State.wholeTick_spec]
@[simp] theorem State.wholeTick_phase : s.wholeTick.phase = s.phaseNext := by rw [State.wholeTick_spec]
theorem State.wholeTick_rrst : s.wholeTick.rrst = if s.cfg.hasRelayReset then s.rrstNext else s.rrst := by
  rw [State.wholeTick_spec]
theorem State.wholeTick_siren : s.wholeTick.siren = if s.cfg.hasSiren then s.sirenNext else s.siren := by
  rw [State.wholeTick_spec]

end Fields

/-! ### The ticks of a disabled controller (R110, R126) -/

/-- The latch takes no part in the choice of the command (R121). -/
theorem State.raiseTick_sel (s : State) : s.raiseTick.sel = s.sel := rfl

section Disabled

variable {s : State} (h0 : s.hb = 0#8)
include h0

theorem State.dec_of_disabled : s.dec = false := by simp [State.dec, State.counting, h0]

theorem State.fire_of_disabled : s.fire = false := by simp [State.fire, State.dec_of_disabled h0]

theorem State.hbNext_of_disabled : s.hbNext = 0#8 := by
  simp [State.hbNext, State.fire_of_disabled h0, State.dec_of_disabled h0, h0]

theorem State.Inv.sel_of_disabled (h : s.Inv) : s.sel = none := by
  rw [State.sel, if_pos (h.act_of_disabled h0).2]

/-- A whole tick leaves what the disabled controller would use up in a close sequence. -/
theorem State.Inv.wholeTick_counters_of_disabled (h : s.Inv) :
    s.wholeTick.stepsA = s.stepsA ∧ s.wholeTick.stepsB = s.stepsB ∧ s.wholeTick.rrst = s.rrst := by
  have hfire := State.fire_of_disabled h0
  have hsel := h.sel_of_disabled h0
  refine ⟨by simp [State.stepsANext, hfire, hsel], by simp [State.stepsBNext, hfire, hsel], ?_⟩
  rw [State.wholeTick_rrst]
  split
  · rename_i hr
    simp [State.rrstNext, State.rrstCount, hfire, hsel, hr]
  · rfl

/-- No command is pushed into DTX, and where it is empty nothing drains. -/
theorem State.Settled.wholeTick_dtx_of_disabled (h : s.Settled) : s.wholeTick.dtx = s.dtx := by
  have hbuf : (s.raiseTick.tickNext.drained .htx).dtx = s.dtx := by
    have hsel : s.raiseTick.sel = none := s.raiseTick_sel.trans (h.inv.sel_of_disabled h0)
    calc (s.raiseTick.tickNext.drained .htx).dtx
        = s.raiseTick.tickNext.dtx := State.buf_drained_ne (g := .dtx) _ _ (by decide)
      _ = s.dtx := by rw [State.tickNext_dtx, hsel]; rfl
  have hempty : (s.raiseTick.tickNext.drained .htx).bufCanRead .dtx = false :=
    (State.bufCanRead_congr (g := .dtx) hbuf).trans h.dtx_empty
  rw [State.wholeTick, State.drained_of_empty hempty, hbuf]

end Disabled

/-- `t` is disabled and settled, with DTX and the counters of a close sequence as in `s`. -/
structure State.DisabledLike (s t : State) : Prop where
  settled : t.Settled
  hb_eq : t.hb = 0#8
  dtx_eq : t.dtx = s.dtx
  stepsA_eq : t.stepsA = s.stepsA
  stepsB_eq : t.stepsB = s.stepsB
  rrst_eq : t.rrst = s.rrst

theorem State.DisabledLike.wholeTick {s t : State} (h : s.DisabledLike t) : s.DisabledLike t.wholeTick := by
  obtain ⟨hA, hB, hR⟩ := h.settled.inv.wholeTick_counters_of_disabled h.hb_eq
  exact
    { settled := h.settled.wholeTick
      hb_eq := t.wholeTick_hb.trans (State.hbNext_of_disabled h.hb_eq)
      dtx_eq := (h.settled.wholeTick_dtx_of_disabled h.hb_eq).trans h.dtx_eq
      stepsA_eq := hA.trans h.stepsA_eq
      stepsB_eq := hB.trans h.stepsB_eq
      rrst_eq := hR.trans h.rrst_eq }

/-- Settles O44, by induction on the number of ticks. -/
theorem disabledControllerSendsNoCommand : Obligations.DisabledControllerSendsNoCommand := by
  intro s n hinv h0 hhtx hdtx
  have hs : s.Settled := ⟨hinv, hhtx, hdtx⟩
  have h : s.DisabledLike (State.wholeTick^[n] s) :=
    Function.Iterate.rec s.DisabledLike ⟨hs, h0, rfl, rfl, rfl, rfl⟩ (fun _ => State.DisabledLike.wholeTick) n
  exact ⟨_, hs.execAll_macroTs n, h.dtx_eq, h.stepsA_eq, h.stepsB_eq, h.rrst_eq, h.hb_eq,
    (h.settled.inv.act_of_disabled h.hb_eq).2⟩

/-! ### Whole ticks that are not held

`State.Settled` asks for an empty DTX; a disabled controller, which sends no command, needs no room there. -/

/-- A state between two whole ticks, none of which is held (R120). -/
structure State.Unheld (s : State) : Prop where
  inv : s.Inv
  htx_empty : s.bufCanRead .htx = false
  no_command : s.hb = 0#8 ∨ s.bufCanRead .dtx = false

section Unheld

variable {s : State} (h : s.Unheld)
include h

theorem State.Unheld.exec_tick : exec .tick s.raiseTick = .next s.raiseTick.tickNext :=
  exec_tick_run rfl (h.inv.bufFull_of_empty h.htx_empty)
    (h.no_command.imp (fun h0 => s.raiseTick_sel.trans (h.inv.sel_of_disabled h0)) h.inv.bufFull_of_empty)

theorem State.Unheld.execAll_macroT : execAll macroT s = .next s.wholeTick := by
  simp [macroT, execAll, exec_pulse, h.exec_tick, exec_txDrain_drained, State.wholeTick]

theorem State.Unheld.htx_drained : s.wholeTick.bufCanRead .htx = false := by
  rw [State.wholeTick, State.bufCanRead_drained_ne _ _ (by decide)]
  exact State.bufCanRead_drained_of_push (s := s.raiseTick) (d := .htx) h.htx_empty (by simp) (State.buf_tickNext_htx _)

/-- A disabled controller stays so, and a DTX that was empty is empty again. -/
theorem State.Unheld.wholeTick : s.wholeTick.Unheld where
  inv :=
    have hraise : s.raiseTick.Inv := h.inv.of_same rfl
    hraise.tickNext.drained.drained
  htx_empty := h.htx_drained
  no_command := h.no_command.imp (fun h0 => s.wholeTick_hb.trans (State.hbNext_of_disabled h0))
    fun hd => State.Settled.dtx_drained ⟨h.inv, h.htx_empty, hd⟩

end Unheld

theorem State.Unheld.execAll_macroTs {s : State} (h : s.Unheld) (n : Nat) :
    execAll (macroTs n) s = .next (State.wholeTick^[n] s) := by
  induction n generalizing s with
  | zero => rfl
  | succ n ih => rw [macroTs, execAll_append h.execAll_macroT, ih h.wholeTick, Function.iterate_succ_apply]

/-! ### Ticks that do not arm the siren (R121, R128) -/

/-- The counts that the controller makes in `n` ticks (R122). -/
def State.countsIn (s : State) (n : Nat) : Nat := (s.phase + n) / s.cfg.ticksPerCount

/-- No tick of the next `n` arms the siren: the countdown is over, below the arming value, or too far above it. -/
def State.NoArming (s : State) (n : Nat) : Prop :=
  s.trig = true ∨ s.hb.toNat ≤ s.cfg.sirenPrewarnCounts.toNat
    ∨ s.countsIn n < s.hb.toNat - s.cfg.sirenPrewarnCounts.toNat

section NoArming

variable {s : State}

/-- The first of `n + 1` ticks makes a count where the prescaler stands at its end, and none elsewhere. -/
theorem State.Inv.countsIn_succ (h : s.Inv) (n : Nat) :
    s.countsIn (n + 1) = s.wholeTick.countsIn n + if s.phase = s.cfg.ticksPerCount - 1 then 1 else 0 := by
  have hpos := Config.ticksPerCount_pos h.cfg_wf
  have hlt := h.phase_lt
  simp only [State.countsIn, State.wholeTick_phase, State.wholeTick_cfg, State.phaseNext]
  split
  · rename_i hlast
    have hend : s.phase + 1 = s.cfg.ticksPerCount := by omega
    rw [hend, Nat.mod_self, Nat.zero_add, ← Nat.add_div_left n hpos, ← hend]
    congr 1
    omega
  · rw [Nat.mod_eq_of_lt (by omega), Nat.add_zero]
    congr 1
    omega

theorem State.dec_iff :
    s.dec = true ↔ s.hb ≠ 0#8 ∧ s.hb ≠ sentinel ∧ s.phase = s.cfg.ticksPerCount - 1 := by
  simp [State.dec, State.counting, and_assoc]

/-- The tick that arms finds the counter one above the arming value. -/
theorem State.of_autoarm (h : s.autoarm = true) :
    s.dec = true ∧ s.hb.toNat = s.cfg.sirenPrewarnCounts.toNat + 1 := by
  simp only [State.autoarm, Bool.and_eq_true, beq_iff_eq] at h
  obtain ⟨⟨-, hdec⟩, heq⟩ := h
  have h0 := (State.ne_of_dec hdec).1
  have hpos := byte_toNat_ne_zero h0
  have hsub := byte_sub_one h0
  rw [heq] at hsub
  exact ⟨hdec, by omega⟩

theorem State.Inv.autoarm_of_noArming (h : s.Inv) {n : Nat} (hn : s.NoArming (n + 1)) : s.autoarm = false := by
  refine Bool.eq_false_iff.mpr fun harm => ?_
  obtain ⟨hdec, hhb⟩ := State.of_autoarm harm
  obtain ht | hle | hfar := hn
  · simp [h.trig_of_dec hdec] at ht
  · omega
  · rw [h.countsIn_succ, if_pos (State.dec_iff.mp hdec).2.2] at hfar
    omega

/-- A tick fires, or makes one count, or leaves the counter with the prescaler not at its end. -/
theorem State.Inv.noArming_wholeTick (h : s.Inv) {n : Nat} (hn : s.NoArming (n + 1)) : s.wholeTick.NoArming n := by
  by_cases htrig : s.trigNext = true
  · exact .inl (s.wholeTick_trig.trans htrig)
  have ht : s.trig ≠ true := fun ht => htrig (State.trigNext_of_trig ht)
  have hfire : s.fire = false := Bool.eq_false_iff.mpr fun hf => htrig (by simp [State.trigNext, hf])
  refine .inr ?_
  rw [State.wholeTick_hb, State.wholeTick_cfg]
  have hcounting := hn.resolve_left ht
  cases hdec : s.dec
  · have hhb : s.hbNext = s.hb := by simp [State.hbNext, hfire, hdec]
    rw [hhb]
    refine hcounting.imp id fun hfar => ?_
    have h0 : s.hb ≠ 0#8 := by
      intro h0
      simp [h0] at hfar
    have hmid : s.phase ≠ s.cfg.ticksPerCount - 1 := fun hp =>
      absurd (State.dec_iff.mpr ⟨h0, fun hs => ht (h.trig_iff.mpr hs), hp⟩) (by simp [hdec])
    rwa [h.countsIn_succ, if_neg hmid] at hfar
  · obtain ⟨h0, -, hp⟩ := State.dec_iff.mp hdec
    have hhb : s.hbNext.toNat = s.hb.toNat - 1 := by simp [State.hbNext, hfire, hdec, byte_sub_one h0]
    rw [hhb]
    refine hcounting.imp (by omega) fun hfar => ?_
    rw [h.countsIn_succ, if_pos hp] at hfar
    omega

end NoArming

/-! ### The siren's run -/

/-- A tick that does not arm the siren takes one from its counter (R128). -/
theorem State.wholeTick_siren_of_not_autoarm {s : State} (hs : s.cfg.hasSiren = true) (harm : s.autoarm = false)
    (h0 : s.siren ≠ 0#8) : s.wholeTick.siren = s.siren - 1#8 := by
  simp [State.wholeTick_siren, State.sirenNext, State.sirenCount, hs, harm, h0]

theorem State.Unheld.siren_wholeTicks {s : State} (h : s.Unheld) (hs : s.cfg.hasSiren = true) {n : Nat}
    (hn : s.NoArming n) (hle : n ≤ s.siren.toNat) :
    (State.wholeTick^[n] s).siren.toNat = s.siren.toNat - n := by
  induction n generalizing s with
  | zero => rfl
  | succ n ih =>
    have h0 : s.siren ≠ 0#8 := byte_ne_zero_of_pos (by omega)
    have hone : s.wholeTick.siren.toNat = s.siren.toNat - 1 := by
      rw [State.wholeTick_siren_of_not_autoarm hs (h.inv.autoarm_of_noArming hn) h0, byte_sub_one h0]
    rw [Function.iterate_succ_apply, ih h.wholeTick (by rwa [State.wholeTick_cfg]) (h.inv.noArming_wholeTick hn)
      (by omega), hone]
    omega

/-- Settles O39: no tick arms the siren, so each takes one from its counter. -/
theorem sirenRunsItsTicks : Obligations.SirenRunsItsTicks := by
  intro s n hinv hs hhtx hdtx hn hle
  have h : s.Unheld := ⟨hinv, hhtx, hdtx⟩
  have hcount := h.siren_wholeTicks hs hn hle
  refine ⟨_, h.execAll_macroTs n, hcount, ?_⟩
  rw [State.sirenO_iff (by rwa [State.wholeTick_iterate_cfg]), ne_eq, ← BitVec.toNat_inj, hcount,
    BitVec.toNat_zero]
  omega

end Sys2Proof.Machine

/-!
Proofs of the family 43_tick.md: the conditions and the table of the tick (R121, R131), its hold (R120, R135), the
messages that it sends (R126, R130, R133), the sequential program (R132), and the runs of whole ticks that count down
to the trigger (R123, R124) and close the dome (R125, R126).
-/

namespace Sys2Proof.Machine

/-! ### The conditions of the tick (R121) -/

section Conditions

variable {s : State}

theorem State.complete_iff : s.complete = true ↔ s.act = true ∧ s.stepsA = 0#8 ∧ s.stepsB = 0#8 := by
  simp [State.complete, and_assoc]

theorem State.autoarm_iff :
    s.autoarm = true ↔ s.cfg.hasSiren = true ∧ s.dec = true ∧ s.hb - 1#8 = s.cfg.sirenPrewarnCounts := by
  simp [State.autoarm, and_assoc]

theorem State.rrstCount_eq_zero_iff : s.rrstCount = 0#8 ↔ s.cfg.hasRelayReset = false ∨ s.rrst = 0#8 := by
  unfold State.rrstCount
  cases s.cfg.hasRelayReset <;> simp

theorem State.rrstCount_ne_zero (hunit : s.cfg.hasRelayReset = true) (hr : s.rrst ≠ 0#8) : s.rrstCount ≠ 0#8 := by
  simp [State.rrstCount, hunit, hr]

/-! The choice of the command, by priority (R126). -/

theorem State.sel_of_not_act (ha : s.act = false) : s.sel = none := by
  rw [State.sel, if_pos ha]

variable (ha : s.act = true)
include ha

theorem State.sel_of_rrst (hr : s.rrstCount ≠ 0#8) : s.sel = some .relayReset := by
  simp [State.sel, ha, hr]

theorem State.sel_of_stepsA (hr : s.rrstCount = 0#8) (hA : s.stepsA ≠ 0#8) : s.sel = some .stepA := by
  simp [State.sel, ha, hr, hA]

theorem State.sel_of_stepsB (hr : s.rrstCount = 0#8) (hA : s.stepsA = 0#8) (hB : s.stepsB ≠ 0#8) :
    s.sel = some .stepB := by
  simp [State.sel, ha, hr, hA, hB]

theorem State.sel_of_no_step (hr : s.rrstCount = 0#8) (hA : s.stepsA = 0#8) (hB : s.stepsB = 0#8) :
    s.sel = none := by
  simp [State.sel, ha, hr, hA, hB]

end Conditions

/-- Settles O32. -/
theorem tickConditionsAreThoseOfTheRule : Obligations.TickConditionsAreThoseOfTheRule := fun s =>
  ⟨State.dec_iff, s.fire_iff, State.complete_iff, State.autoarm_iff, State.sel_of_not_act,
    fun ha hunit hr => State.sel_of_rrst ha (State.rrstCount_ne_zero hunit hr),
    fun ha hr => State.sel_of_stepsA ha (State.rrstCount_eq_zero_iff.mpr hr),
    fun ha hr => State.sel_of_stepsB ha (State.rrstCount_eq_zero_iff.mpr hr),
    fun ha hr => State.sel_of_no_step ha (State.rrstCount_eq_zero_iff.mpr hr)⟩

/-! ### A tick that waits (R120, R135) -/

/-- Why TICK has no step: no tick is pending, HTX is full, or a command is due and DTX is full. -/
def State.Waits (s : State) : Prop :=
  s.tickPend = false ∨ s.bufFull .htx = true ∨ (s.sel ≠ none ∧ s.bufFull .dtx = true)

section Waits

variable {s : State}

theorem State.enabled_tick_iff_not_waits : s.enabled .tick = true ↔ ¬ s.Waits := by
  rw [State.enabled_tick_iff]
  simp only [State.Waits, not_or, not_and_or, not_not, Bool.not_eq_false, Bool.not_eq_true]

theorem State.tickRun_of_waits (h : s.Waits) : s.tickRun = s := by
  rw [State.tickRun, if_neg]
  intro hrun
  exact State.enabled_tick_iff_not_waits.mp (by simp [State.enabled, hrun]) h

/-- A command is not sent by a tick that waits, nor by one that would send another command or none (log 6). -/
theorem State.tickSending_eq_self {c : Command}
    (h : s.tickPend = false ∨ s.bufFull .htx = true ∨ s.bufFull .dtx = true ∨ s.sel ≠ some c) :
    s.tickSending c = s := by
  by_cases hsel : s.sel = some c
  · have hwaits : s.Waits :=
      h.imp id (Or.imp id fun h => ⟨by simp [hsel], h.resolve_right (not_not.mpr hsel)⟩)
    rw [State.tickSending, if_pos hsel, State.tickRun_of_waits hwaits]
  · rw [State.tickSending, if_neg hsel]

/-- A report is not sent by a tick that waits, nor by one that reports another byte (log 7). -/
theorem State.tickReporting_eq_self {b : Byte} (h : s.Waits ∨ s.tickReport ≠ b) : s.tickReporting b = s := by
  by_cases hb : s.tickReport = b
  · rw [State.tickReporting, if_pos hb, State.tickRun_of_waits (h.resolve_right (not_not.mpr hb))]
  · rw [State.tickReporting, if_neg hb]

end Waits

/-- Settles O33. -/
theorem tickWaitsWithoutRequestOrRoom : Obligations.TickWaitsWithoutRequestOrRoom := by
  intro s
  have hwait : s.Waits → exec .tick s = .next s := fun h => by rw [exec_tick, State.tickRun_of_waits h]
  exact ⟨fun hp => hwait (.inl hp), fun hh => hwait (.inr (.inl hh)), fun hs hd => hwait (.inr (.inr ⟨hs, hd⟩))⟩

/-- Settles O46. -/
theorem domeCommandsAreNotSentOtherwise : Obligations.DomeCommandsAreNotSentOtherwise := by
  intro s
  rw [exec_cReset, exec_cStepA, exec_cStepB]
  exact ⟨fun h => by rw [State.tickSending_eq_self h], fun h => by rw [State.tickSending_eq_self h],
    fun h => by rw [State.tickSending_eq_self h]⟩

/-- Settles O48. -/
theorem statusReportsAreNotSentOtherwise : Obligations.StatusReportsAreNotSentOtherwise := by
  intro s v h
  have hself : s.tickReporting v = s := State.tickReporting_eq_self (by simpa only [State.Waits, or_assoc] using h)
  rw [exec_sClosing, exec_sTriggered, exec_sDisabled, exec_sCount, hself]
  refine ⟨?_, ?_, ?_, rfl⟩ <;> rintro rfl <;> rw [hself]

/-! ### A tick that is performed -/

section Performed

variable {s : State}

theorem State.pushed_push (s : State) (f : BufId) (b : Byte) :
    RingBuf.Pushed (s.cfg.size f) (s.buf f) ((s.push f b).buf f) b :=
  (s.push_spec f b).1

/-- DTX after a tick that sends `c` (R126). -/
theorem State.pushed_tickNext_dtx {c : Command} (hs : s.sel = some c) :
    RingBuf.Pushed (s.cfg.size .dtx) s.dtx s.tickNext.dtx c.code := by
  rw [State.tickNext_dtx, hs]
  exact s.pushed_push .dtx c.code

/-- HTX after a tick (R130). -/
theorem State.pushed_tickNext_htx (s : State) :
    RingBuf.Pushed (s.cfg.size .htx) s.htx s.tickNext.htx s.tickReport := by
  rw [← State.buf_htx s.tickNext, State.buf_tickNext_htx]
  exact s.pushed_push .htx s.tickReport

@[simp] theorem State.tickNext_hb (s : State) : s.tickNext.hb = s.hbNext := by rw [State.tickNext_eq]
@[simp] theorem State.tickNext_act (s : State) : s.tickNext.act = s.actNext := by rw [State.tickNext_eq]
@[simp] theorem State.tickNext_stepsA (s : State) : s.tickNext.stepsA = s.stepsANext := by rw [State.tickNext_eq]
@[simp] theorem State.tickNext_stepsB (s : State) : s.tickNext.stepsB = s.stepsBNext := by rw [State.tickNext_eq]
@[simp] theorem State.tickNext_blink (s : State) : s.tickNext.blink = !s.blink := by rw [State.tickNext_eq]
@[simp] theorem State.tickNext_phase (s : State) : s.tickNext.phase = s.phaseNext := by rw [State.tickNext_eq]
theorem State.tickNext_rrst (hunit : s.cfg.hasRelayReset = true) : s.tickNext.rrst = s.rrstNext := by
  rw [State.tickNext_eq]
  exact if_pos hunit
theorem State.tickNext_rrst_of_no_unit (hunit : s.cfg.hasRelayReset = false) : s.tickNext.rrst = s.rrst := by
  rw [State.tickNext_eq]
  simp [hunit]
theorem State.tickNext_siren (hunit : s.cfg.hasSiren = true) : s.tickNext.siren = s.sirenNext := by
  rw [State.tickNext_eq]
  exact if_pos hunit
theorem State.tickNext_siren_of_no_unit (hunit : s.cfg.hasSiren = false) : s.tickNext.siren = s.siren := by
  rw [State.tickNext_eq]
  simp [hunit]

theorem State.rrstCount_of_unit (hunit : s.cfg.hasRelayReset = true) : s.rrstCount = s.rrst := if_pos hunit

theorem State.sirenCount_of_unit (hunit : s.cfg.hasSiren = true) : s.sirenCount = s.siren := if_pos hunit

/-- The fields that no tick writes (R131). -/
theorem State.tickNext_frame (s : State) :
    s.tickNext.cfg = s.cfg ∧ s.tickNext.tcnt = s.tcnt ∧ s.tickNext.hrx = s.hrx ∧ s.tickNext.drx = s.drx
      ∧ s.tickNext.htxOut = s.htxOut ∧ s.tickNext.dtxOut = s.dtxOut ∧ s.tickNext.tickO = s.tickO
      ∧ s.tickNext.ret = s.ret ∧ s.tickNext.script = s.script ∧ s.tickNext.draws = s.draws := by
  rw [State.tickNext_eq]
  exact ⟨rfl, rfl, rfl, rfl, rfl, rfl, rfl, rfl, rfl, rfl⟩

theorem State.tickReport_of_entry (h : s.cfg.statusSample = .entry) : s.tickReport = s.statusNow := by
  rw [State.tickReport_eq, if_pos h]

theorem State.tickReport_of_exit (h : s.cfg.statusSample = .exit) : s.tickReport = s.tickNext.statusNow := by
  rw [State.tickReport_eq, if_neg (by simp [h])]

theorem State.tickRun_of_room (hp : s.tickPend = true) (hh : s.bufFull .htx = false)
    (hd : s.sel = none ∨ s.bufFull .dtx = false) : s.tickRun = s.tickNext := by
  rw [State.tickRun, if_pos ⟨hp, s.tickHeld_iff.mpr ⟨hh, hd⟩⟩]

/-- What a performed tick answers, for statements that name the answer. -/
theorem eq_tickNext_of_exec_tick {t : State} (hp : s.tickPend = true) (hh : s.bufFull .htx = false)
    (hd : s.sel = none ∨ s.bufFull .dtx = false) (h : exec .tick s = .next t) : t = s.tickNext := by
  rw [exec_tick_run hp hh hd] at h
  cases h
  rfl

end Performed

/-- Settles O34: the next state is `tickNext`, whose fields have each their lemma. -/
theorem tickWritesTheNextStateTable : Obligations.TickWritesTheNextStateTable := by
  intro s hp hh hd
  refine ⟨s.tickNext, exec_tick_run hp hh hd, s.tickNext_hb, s.tickNext_trig, s.tickNext_act, s.tickNext_stepsA,
    s.tickNext_stepsB, fun hunit => ?_, State.tickNext_rrst_of_no_unit, fun hunit => ?_,
    State.tickNext_siren_of_no_unit, ?_, s.tickNext_blink, s.tickNext_phase, s.tickNext_tickPend, fun hs => ?_,
    State.pushed_tickNext_dtx, State.pushed_tickNext_dtx, State.pushed_tickNext_dtx, fun hsample => ?_,
    fun hsample => ?_, s.tickNext_frame⟩
  · rw [State.tickNext_rrst hunit, State.rrstNext, State.rrstCount_of_unit hunit]
  · rw [State.tickNext_siren hunit, State.sirenNext, State.sirenCount_of_unit hunit]
  · rw [State.tickNext_gate]
    cases s.sel <;> rfl
  · rw [State.tickNext_dtx, hs, State.tickCommand_none]
  · have hpush := s.pushed_tickNext_htx
    rwa [State.tickReport_of_entry hsample] at hpush
  · have hpush := s.pushed_tickNext_htx
    rwa [State.tickReport_of_exit hsample] at hpush

/-! ### The countdown, the trigger and the end of the close (R123 to R125) -/

section Countdown

variable {s : State}

theorem State.hbNext_of_fire (hf : s.fire = true) : s.hbNext = sentinel := by rw [State.hbNext, if_pos hf]
theorem State.trigNext_of_fire (hf : s.fire = true) : s.trigNext = true := by rw [State.trigNext, if_pos hf]
theorem State.actNext_of_fire (hf : s.fire = true) : s.actNext = true := by rw [State.actNext, if_pos hf]
theorem State.stepsANext_of_fire (hf : s.fire = true) : s.stepsANext = s.cfg.maxShutterCloseSteps := by
  rw [State.stepsANext, if_pos hf]
theorem State.stepsBNext_of_fire (hf : s.fire = true) : s.stepsBNext = s.cfg.maxShutterCloseSteps := by
  rw [State.stepsBNext, if_pos hf]
theorem State.rrstNext_of_fire (hf : s.fire = true) : s.rrstNext = s.cfg.relayResetSteps := by
  rw [State.rrstNext, if_pos hf]

theorem State.fire_of_not_dec (hdec : s.dec = false) : s.fire = false := by simp [State.fire, hdec]

theorem State.fire_of_ne_one (h1 : s.hb ≠ 1#8) : s.fire = false := by simp [State.fire, h1]

theorem State.hbNext_of_not_dec (hdec : s.dec = false) : s.hbNext = s.hb := by
  simp [State.hbNext, State.fire_of_not_dec hdec, hdec]

theorem State.hbNext_of_dec (hdec : s.dec = true) (h1 : s.hb ≠ 1#8) : s.hbNext = s.hb - 1#8 := by
  simp [State.hbNext, State.fire_of_ne_one h1, hdec]

theorem State.trigNext_of_not_fire (hf : s.fire = false) : s.trigNext = s.trig := by simp [State.trigNext, hf]

theorem State.statusNow_of_act (ha : s.act = true) : s.statusNow = 254#8 := by
  simp [State.statusNow, statusByte, ha]

theorem State.statusNow_of_idle (ha : s.act = false) (ht : s.trig = true) : s.statusNow = 255#8 := by
  simp [State.statusNow, statusByte, ha, ht]

end Countdown

theorem byte_ne_of_two_le {b : Byte} (h : 2 ≤ b.toNat) : b ≠ 0#8 ∧ b ≠ 1#8 := by
  constructor <;> rintro rfl <;> exact absurd h (by decide)

/-- Settles O36. -/
theorem tickCountsDown : Obligations.TickCountsDown := by
  intro s t hp hh hd hexec
  obtain rfl := eq_tickNext_of_exec_tick hp hh hd hexec
  rw [State.tickNext_hb]
  constructor
  · intro hstop
    refine State.hbNext_of_not_dec (Bool.eq_false_iff.mpr fun hdec => ?_)
    obtain ⟨h0, h255, hphase⟩ := State.dec_iff.mp hdec
    exact hstop.elim h0 (Or.elim · h255 (· hphase))
  · intro h2 h255 hphase
    obtain ⟨h0, h1⟩ := byte_ne_of_two_le h2
    rw [State.hbNext_of_dec (State.dec_iff.mpr ⟨h0, h255, hphase⟩) h1, byte_sub_one h0]

theorem State.fire_of_one {s : State} (h1 : s.hb = 1#8) (hphase : s.phase = s.cfg.ticksPerCount - 1) :
    s.fire = true := by
  rw [State.fire_iff, State.dec_iff, h1]
  exact ⟨⟨by decide, by decide, hphase⟩, rfl⟩

/-- Settles O37: the tick fires, and an inactive controller selects no command. -/
theorem tickTriggersAtOne : Obligations.TickTriggersAtOne := by
  intro s hp hh h1 hphase ha
  have hf := State.fire_of_one h1 hphase
  have hsel := State.sel_of_not_act ha
  have hact : s.tickNext.act = true := s.tickNext_act.trans (State.actNext_of_fire hf)
  refine ⟨s.tickNext, exec_tick_run hp hh (.inl hsel), s.tickNext_hb.trans (State.hbNext_of_fire hf),
    s.tickNext_trig.trans (State.trigNext_of_fire hf), hact, hact,
    s.tickNext_stepsA.trans (State.stepsANext_of_fire hf), s.tickNext_stepsB.trans (State.stepsBNext_of_fire hf),
    fun hunit => (State.tickNext_rrst hunit).trans (State.rrstNext_of_fire hf), ?_, State.statusNow_of_act hact⟩
  rw [State.tickNext_dtx, hsel, State.tickCommand_none]

/-- The tick that finds both step counters 0 ends the close sequence (R125). -/
theorem State.actNext_of_complete {s : State} (hf : s.fire = false) (hc : s.complete = true) :
    s.actNext = false := by
  simp [State.actNext, hf, hc]

/-- Settles O38: at the counter's value 255 the tick neither decrements nor fires. -/
theorem tickCompletesTheClose : Obligations.TickCompletesTheClose := by
  intro s hp hh hd ha hA hB ht h255
  have hdec : s.dec = false := Bool.eq_false_iff.mpr fun hdec => (State.ne_of_dec hdec).2 h255
  have hf := State.fire_of_not_dec hdec
  have hact : s.tickNext.act = false :=
    s.tickNext_act.trans (State.actNext_of_complete hf (State.complete_iff.mpr ⟨ha, hA, hB⟩))
  have htrig : s.tickNext.trig = true := by rw [State.tickNext_trig, State.trigNext_of_not_fire hf, ht]
  have hhb : s.tickNext.hb = 0xFF#8 := by rw [State.tickNext_hb, State.hbNext_of_not_dec hdec, h255]
  exact ⟨s.tickNext, exec_tick_run hp hh hd, hact, hact, htrig, hhb, State.statusNow_of_idle hact htrig⟩

/-- Settles O40: the gate is set exactly where a command is selected, and that command is pushed into DTX. -/
theorem tickAdvancesPhaseGateAndBlink : Obligations.TickAdvancesPhaseGateAndBlink := by
  intro s t hp hh hd hexec
  obtain rfl := eq_tickNext_of_exec_tick hp hh hd hexec
  refine ⟨s.tickNext_phase, s.tickNext_blink, ?_⟩
  rw [State.tickNext_gate]
  cases hs : s.sel with
  | none => simp
  | some c =>
    obtain ⟨-, -, hwr, -⟩ := State.pushed_tickNext_dtx hs
    simpa using hwr

/-! ### The messages that a tick sends (R126, R130, R133) -/

/-- The row of the command that is due is the whole tick, which pushes its byte and sets the gate (log 6). -/
theorem State.tickSending_of_sel {s : State} {c : Command} (hp : s.tickPend = true) (hh : s.bufFull .htx = false)
    (hd : s.bufFull .dtx = false) (hs : s.sel = some c) :
    s.tickSending c = s.tickNext ∧ exec .tick s = .next s.tickNext
      ∧ RingBuf.Pushed (s.cfg.size .dtx) s.dtx s.tickNext.dtx c.code ∧ s.tickNext.gate = true := by
  refine ⟨?_, exec_tick_run hp hh (.inr hd), State.pushed_tickNext_dtx hs, ?_⟩
  · rw [State.tickSending, if_pos hs, State.tickRun_of_room hp hh (.inr hd)]
  · rw [State.tickNext_gate, hs, Option.isSome_some]

/-- Settles O45: the counter of the command that is due goes down by its row of R131. -/
theorem domeCommandsAreSentByPriority : Obligations.DomeCommandsAreSentByPriority := by
  intro s hp hh hd ha
  refine ⟨fun hunit hr => ?_, fun hr hA => ?_, fun hr hA hB => ?_⟩
  · have hs := State.sel_of_rrst ha (State.rrstCount_ne_zero hunit hr)
    obtain ⟨hrow, htick, hpush, hgate⟩ := State.tickSending_of_sel hp hh hd hs
    refine ⟨_, by rw [exec_cReset, hrow], htick, hpush, hgate, fun hf => ?_⟩
    simp [State.tickNext_rrst hunit, State.rrstNext, hf, hs, State.rrstCount_of_unit hunit]
  · have hs := State.sel_of_stepsA ha (State.rrstCount_eq_zero_iff.mpr hr) hA
    obtain ⟨hrow, htick, hpush, hgate⟩ := State.tickSending_of_sel hp hh hd hs
    exact ⟨_, by rw [exec_cStepA, hrow], htick, hpush, hgate, fun hf => by simp [State.stepsANext, hf, hs]⟩
  · have hs := State.sel_of_stepsB ha (State.rrstCount_eq_zero_iff.mpr hr) hA hB
    obtain ⟨hrow, htick, hpush, hgate⟩ := State.tickSending_of_sel hp hh hd hs
    exact ⟨_, by rw [exec_cStepB, hrow], htick, hpush, hgate, fun hf => by simp [State.stepsBNext, hf, hs]⟩

/-- The row of the byte that a tick reports is the whole tick (log 7). -/
theorem State.tickReporting_of_report {s : State} {b : Byte} (hp : s.tickPend = true) (hh : s.bufFull .htx = false)
    (hd : s.sel = none ∨ s.bufFull .dtx = false) (hb : s.tickReport = b) : s.tickReporting b = s.tickNext := by
  rw [State.tickReporting, if_pos hb, State.tickRun_of_room hp hh hd]

/-- Settles O47. -/
theorem statusReportsArePushed : Obligations.StatusReportsArePushed := by
  intro s hp hh hd
  have hrow : ∀ b, s.tickReport = b → s.tickReporting b = s.tickNext := fun _ =>
    State.tickReporting_of_report hp hh hd
  exact ⟨s.tickNext, exec_tick_run hp hh hd, s.pushed_tickNext_htx, State.tickReport_of_entry,
    State.tickReport_of_exit, fun hb => by rw [exec_sClosing, hrow _ hb], fun hb => by rw [exec_sTriggered, hrow _ hb],
    fun hb => by rw [exec_sDisabled, hrow _ hb], fun _ _ => by rw [exec_sCount, hrow _ rfl]⟩

/-! ### The sequential program of the tick (R132)

Each of its statements is one record update, its new values given by the conditions of R121 on the state that the
statement finds. No statement writes what a later condition reads, so these are the conditions of the entry state. -/

section Sequence

variable (s : State)

theorem State.seqReport_eq (at_ : StatusSample) :
    s.seqReport at_
      = { s with htx := if s.cfg.statusSample = at_ then (s.push .htx s.statusNow).htx else s.htx } := by
  unfold State.seqReport
  split <;> rfl

theorem State.tickCommand_dtx (o : Option Command) :
    (s.tickCommand o).dtx = o.elim s.dtx fun c => (s.push .dtx c.code).dtx := by
  cases o <;> rfl

/-- With the gate clear, step 4 sends the command that R121 selects. -/
theorem State.seqSend_of_gate_clear (hg : s.gate = false) : s.seqSend = s.sel.elim s s.sendCommand := by
  unfold State.seqSend
  obtain ⟨e, ha | ⟨hr, hA, hB⟩⟩ | ⟨e, ha, hr⟩ | ⟨e, ha, hr, hA⟩ | ⟨e, ha, hr, hA, hB⟩ := s.sel_cases <;> simp [*]

theorem State.seqSend_eq (hg : s.gate = false) :
    s.seqSend
      = { s with
          stepsA := if s.sel = some .stepA then s.stepsA - 1#8 else s.stepsA
          stepsB := if s.sel = some .stepB then s.stepsB - 1#8 else s.stepsB
          rrst := if s.sel = some .relayReset ∧ s.cfg.hasRelayReset = true then s.rrst - 1#8 else s.rrst
          gate := s.sel.isSome
          dtx := s.sel.elim s.dtx fun c => (s.push .dtx c.code).dtx } := by
  rw [s.seqSend_of_gate_clear hg]
  cases hs : s.sel with
  | none => simp [← hg]
  | some c => simp [State.sendCommand_spec]

theorem State.seqComplete_eq (c : Bool) : s.seqComplete c = { s with act := if c then false else s.act } := by
  unfold State.seqComplete
  split <;> rfl

theorem State.seqSiren_eq :
    s.seqSiren = { s with siren := if s.sirenCount ≠ 0#8 then s.siren - 1#8 else s.siren } := by
  unfold State.seqSiren
  split
  · rename_i h
    have hunit : s.cfg.hasSiren = true := by
      by_contra hno
      simp [State.sirenCount, hno] at h
    rw [State.setSiren_of_hasSiren hunit, State.sirenCount_of_unit hunit]
  · rfl

theorem State.seqAutoarm_eq :
    s.seqAutoarm
      = { s with
          siren := if s.cfg.hasSiren = true ∧ s.hb = s.cfg.sirenPrewarnCounts then s.cfg.sirenArmSteps
            else s.siren } := by
  unfold State.seqAutoarm
  split
  · rename_i h
    rw [State.setSiren_of_hasSiren h.1]
  · rfl

theorem State.seqTrigger_eq :
    s.seqTrigger
      = { s with
          hb := if s.hb = 0#8 then sentinel else s.hb
          trig := if s.hb = 0#8 then true else s.trig
          act := if s.hb = 0#8 then true else s.act
          stepsA := if s.hb = 0#8 then s.cfg.maxShutterCloseSteps else s.stepsA
          stepsB := if s.hb = 0#8 then s.cfg.maxShutterCloseSteps else s.stepsB
          rrst := if s.hb = 0#8 ∧ s.cfg.hasRelayReset = true then s.cfg.relayResetSteps else s.rrst } := by
  unfold State.seqTrigger
  by_cases h0 : s.hb = 0#8
  · simp [h0, State.setRrst_eq]
  · simp [h0]

/-- Step 7: the automatic arming and the trigger look at the decremented counter. -/
theorem State.seqCountdown_eq :
    s.seqCountdown
      = { s with
          hb := s.hbNext
          trig := s.trigNext
          act := if s.fire = true then true else s.act
          stepsA := if s.fire = true then s.cfg.maxShutterCloseSteps else s.stepsA
          stepsB := if s.fire = true then s.cfg.maxShutterCloseSteps else s.stepsB
          rrst := if s.fire = true ∧ s.cfg.hasRelayReset = true then s.cfg.relayResetSteps else s.rrst
          siren := if s.autoarm = true then s.cfg.sirenArmSteps else s.siren } := by
  rw [State.seqCountdown]
  cases hdec : s.dec with
  | false =>
    have hf := State.fire_of_not_dec hdec
    have harm : s.autoarm = false := by simp [State.autoarm, hdec]
    rw [if_neg fun h => by simp [State.dec_iff.mpr h] at hdec]
    simp [State.hbNext_of_not_dec hdec, State.trigNext_of_not_fire hf, hf, harm]
  | true =>
    have hfire : s.fire = true ↔ s.hb - 1#8 = 0#8 := by rw [State.fire_iff, byte_sub_one_eq_zero, hdec]; simp
    have harm : s.autoarm = true ↔ s.cfg.hasSiren = true ∧ s.hb - 1#8 = s.cfg.sirenPrewarnCounts := by
      simp [State.autoarm_iff, hdec]
    rw [if_pos (State.dec_iff.mp hdec), State.seqTrigger_eq, State.seqAutoarm_eq]
    simp only [State.hbNext, State.trigNext, hfire, harm, hdec, if_true]

/-- The sequential program and the table of R131 write the same values. -/
theorem State.tickSequence_eq_tickNext : s.tickSequence = s.tickNext := by
  have hrrst : (if s.fire = true ∧ s.cfg.hasRelayReset = true then s.cfg.relayResetSteps
        else if s.sel = some .relayReset ∧ s.cfg.hasRelayReset = true then s.rrst - 1#8 else s.rrst)
      = if s.cfg.hasRelayReset then s.rrstNext else s.rrst := by
    cases hunit : s.cfg.hasRelayReset <;> simp [State.rrstNext, State.rrstCount, hunit]
  have hsiren : (if s.autoarm = true then s.cfg.sirenArmSteps
        else if s.sirenCount ≠ 0#8 then s.siren - 1#8 else s.siren)
      = if s.cfg.hasSiren then s.sirenNext else s.siren := by
    cases hunit : s.cfg.hasSiren
    · simp [State.autoarm, State.sirenCount, hunit]
    · by_cases h0 : s.siren = 0#8 <;> simp [State.sirenNext, State.sirenCount, hunit, h0]
  rw [State.tickNext_eq, ← hrrst, ← hsiren, State.tickCommand_dtx, State.tickSequence]
  simp only [State.seqReport_eq, State.seqClearGate, State.seqSend_eq, State.seqComplete_eq, State.seqSiren_eq,
    State.seqCountdown_eq, State.seqPhase, State.seqBlink]
  cases hsample : s.cfg.statusSample <;> simp only [hsample, reduceIte, reduceCtorEq, State.tickReport] <;> rfl

end Sequence

/-- Settles O35. -/
theorem tickEqualsItsSequentialProgram : Obligations.TickEqualsItsSequentialProgram := by
  intro s hp hh hd
  rw [exec_tick_run hp hh hd, State.tickSequence_eq_tickNext]

@[simp] theorem State.wholeTick_act (s : State) : s.wholeTick.act = s.actNext := by rw [State.wholeTick_spec]

/-! ### Whole ticks up to the trigger (R122 to R124) -/

/-- The ticks that are left until a counting controller triggers, by its count, the cadence and the prescaler. -/
def State.ticksToTrigger (s : State) : Nat :=
  (s.hb.toNat - 1) * s.cfg.ticksPerCount + (s.cfg.ticksPerCount - s.phase)

/-- A counting controller between two whole ticks with draining transports and a silent host. -/
structure State.Counting (s : State) : Prop where
  settled : s.Settled
  not_trig : s.trig = false
  hb_ne_zero : s.hb ≠ 0#8

section Counting

variable {s : State} (h : s.Counting)
include h

theorem State.Counting.not_act : s.act = false :=
  Bool.eq_false_iff.mpr fun ha => absurd (h.settled.inv.act_trig ha) (by simp [h.not_trig])

theorem State.Counting.hb_ne_sentinel : s.hb ≠ sentinel := fun hs =>
  absurd (h.settled.inv.trig_iff.mpr hs) (by simp [h.not_trig])

/-- The counter decrements on the last tick of a count. -/
theorem State.Counting.dec_iff : s.dec = true ↔ s.phase = s.cfg.ticksPerCount - 1 := by
  simp [State.dec_iff, h.hb_ne_zero, h.hb_ne_sentinel]

theorem State.Counting.ticksToTrigger_pos : 0 < s.ticksToTrigger := by
  have hlt := h.settled.inv.phase_lt
  unfold State.ticksToTrigger
  omega

/-- The last tick is the one that fires. -/
theorem State.Counting.fire_iff : s.fire = true ↔ s.ticksToTrigger = 1 := by
  have hlt := h.settled.inv.phase_lt
  have h0 := byte_toNat_ne_zero h.hb_ne_zero
  have h1 : s.hb = 1#8 ↔ s.hb.toNat - 1 = 0 := by rw [← BitVec.toNat_inj, BitVec.toNat_ofNat]; omega
  rw [State.fire_iff, h.dec_iff, h1, State.ticksToTrigger]
  constructor
  · rintro ⟨hphase, hone⟩
    rw [hone]
    omega
  · intro hleft
    have hmul : (s.hb.toNat - 1) * s.cfg.ticksPerCount = 0 := by omega
    have hne : s.cfg.ticksPerCount ≠ 0 := by omega
    exact ⟨by omega, (Nat.mul_eq_zero.mp hmul).resolve_right hne⟩

/-- A tick before the last leaves a counting controller with one tick less. -/
theorem State.Counting.wholeTick (hlast : s.ticksToTrigger ≠ 1) :
    s.wholeTick.Counting ∧ s.wholeTick.ticksToTrigger + 1 = s.ticksToTrigger := by
  have hf : s.fire = false := Bool.eq_false_iff.mpr fun hf => hlast (h.fire_iff.mp hf)
  have htrig : s.wholeTick.trig = false := by
    rw [State.wholeTick_trig, State.trigNext_of_not_fire hf, h.not_trig]
  have hlt := h.settled.inv.phase_lt
  cases hdec : s.dec with
  | false =>
    have hphase : s.phase ≠ s.cfg.ticksPerCount - 1 := fun hp => by simp [h.dec_iff.mpr hp] at hdec
    have hhb : s.wholeTick.hb = s.hb := by rw [State.wholeTick_hb, State.hbNext_of_not_dec hdec]
    refine ⟨⟨h.settled.wholeTick, htrig, hhb ▸ h.hb_ne_zero⟩, ?_⟩
    simp only [State.ticksToTrigger, hhb, State.wholeTick_cfg, State.wholeTick_phase, State.phaseNext]
    rw [Nat.mod_eq_of_lt (by omega)]
    omega
  | true =>
    have hphase := h.dec_iff.mp hdec
    have h1 : s.hb ≠ 1#8 := fun h1 => by simp [State.fire_of_one h1 hphase] at hf
    have hhb : s.wholeTick.hb = s.hb - 1#8 := by rw [State.wholeTick_hb, State.hbNext_of_dec hdec h1]
    have h0 : s.hb - 1#8 ≠ 0#8 := fun h0 => h1 (byte_sub_one_eq_zero.mp h0)
    refine ⟨⟨h.settled.wholeTick, htrig, hhb ▸ h0⟩, ?_⟩
    have hsub := byte_sub_one h.hb_ne_zero
    have hend : s.phase + 1 = s.cfg.ticksPerCount := by omega
    obtain ⟨k, hk⟩ : ∃ k, s.hb.toNat - 1 = k + 1 :=
      Nat.exists_eq_succ_of_ne_zero (hsub ▸ byte_toNat_ne_zero h0)
    simp only [State.ticksToTrigger, hhb, State.wholeTick_cfg, State.wholeTick_phase, State.phaseNext, hend,
      Nat.mod_self, hsub, hk, Nat.add_sub_cancel, Nat.succ_mul]
    omega

end Counting

/-- Up to the last tick the controller counts. -/
theorem State.Counting.wholeTicks {s : State} (h : s.Counting) {n : Nat} (hn : n < s.ticksToTrigger) :
    (State.wholeTick^[n] s).Counting ∧ (State.wholeTick^[n] s).ticksToTrigger + n = s.ticksToTrigger := by
  induction n with
  | zero => exact ⟨h, rfl⟩
  | succ n ih =>
    obtain ⟨hcount, hleft⟩ := ih (by omega)
    obtain ⟨hnext, hone⟩ := hcount.wholeTick (by omega)
    rw [Function.iterate_succ_apply']
    exact ⟨hnext, by omega⟩

/-- Settles O42: each tick before the last brings the trigger one tick nearer, and the last one fires. -/
theorem silentHostTriggersOnTime : Obligations.SilentHostTriggersOnTime := by
  intro s hinv ht h0 hhtx hdtx
  have h : s.Counting := ⟨⟨hinv, hhtx, hdtx⟩, ht, h0⟩
  refine ⟨fun n hn => ?_, ?_⟩
  · obtain ⟨hcount, -⟩ := h.wholeTicks hn
    exact ⟨_, h.settled.execAll_macroTs n, hcount.not_trig, hcount.not_act⟩
  · obtain ⟨m, hm⟩ := Nat.exists_eq_succ_of_ne_zero h.ticksToTrigger_pos.ne'
    obtain ⟨hcount, hleft⟩ := h.wholeTicks (n := m) (by omega)
    have hf := hcount.fire_iff.mpr (by omega)
    have hcfg := s.wholeTick_iterate_cfg m
    refine ⟨_, h.settled.execAll_macroTs s.ticksToTrigger, ?_⟩
    rw [hm, Function.iterate_succ_apply', ← hcfg]
    exact ⟨(State.wholeTick_trig _).trans (State.trigNext_of_fire hf),
      (State.wholeTick_act _).trans (State.actNext_of_fire hf),
      (State.wholeTick_stepsA _).trans (State.stepsANext_of_fire hf),
      (State.wholeTick_stepsB _).trans (State.stepsBNext_of_fire hf)⟩

/-! ### Whole ticks of a close sequence (R125, R126) -/

/-- The bytes that a close sequence has still to send, in order: relay resets, then steps for A, then steps for B. -/
def State.closeBytes (s : State) : List Byte :=
  List.replicate s.rrst.toNat charR ++ List.replicate s.stepsA.toNat charA ++ List.replicate s.stepsB.toNat charB

theorem State.length_closeBytes (s : State) :
    s.closeBytes.length = s.rrst.toNat + s.stepsA.toNat + s.stepsB.toNat := by
  simp [State.closeBytes, Nat.add_assoc]

theorem replicate_of_ne_zero {b : Byte} (h : b ≠ 0#8) (c : Byte) :
    List.replicate b.toNat c = c :: List.replicate (b - 1#8).toNat c := by
  rw [byte_sub_one h, ← List.replicate_succ, Nat.sub_add_cancel (Nat.pos_of_ne_zero (byte_toNat_ne_zero h))]

/-- Without the unit the counter of the relay resets stands at 0 (R17). -/
theorem State.Inv.rrstCount_eq {s : State} (h : s.Inv) : s.rrstCount = s.rrst := by
  cases hunit : s.cfg.hasRelayReset
  · have hle := h.rrst_le
    rw [hunit] at hle
    have h0 : s.rrst = 0#8 := BitVec.eq_of_toNat_eq (Nat.le_zero.mp hle)
    rw [h0, State.rrstCount_eq_zero_iff]
    exact .inl hunit
  · exact State.rrstCount_of_unit hunit

/-- The counter of the relay resets after a whole tick that does not fire. -/
theorem State.Inv.wholeTick_rrst_eq {s : State} (h : s.Inv) (hf : s.fire = false) :
    s.wholeTick.rrst = if s.sel = some .relayReset then s.rrst - 1#8 else s.rrst := by
  rw [State.wholeTick_rrst]
  split
  · simp [State.rrstNext, hf, h.rrstCount_eq]
  · rename_i hunit
    have hsel : s.sel ≠ some .relayReset := by
      intro hs
      obtain ⟨e, -⟩ | ⟨-, -, hr⟩ | ⟨e, -⟩ | ⟨e, -⟩ := s.sel_cases
      case inr.inl => exact hr (State.rrstCount_eq_zero_iff.mpr (.inl (Bool.eq_false_iff.mpr hunit)))
      all_goals simp [e] at hs
    rw [if_neg hsel]

/-- An unconfirmed close between two whole ticks with draining transports. (With both step counters 0 the next tick
ends the sequence whatever `rrst`, R125.) -/
structure State.Closing (s : State) : Prop where
  settled : s.Settled
  active : s.act = true
  step_or_no_reset : s.stepsA ≠ 0#8 ∨ s.stepsB ≠ 0#8 ∨ s.rrst = 0#8

section Closing

variable {s : State} (h : s.Closing)
include h

theorem State.Closing.trig : s.trig = true := h.settled.inv.act_trig h.active

theorem State.Closing.not_fire : s.fire = false := h.settled.inv.fire_of_trig h.trig

/-- A close that is not complete stays active over a tick. -/
theorem State.Closing.wholeTick_act (hstep : s.stepsA ≠ 0#8 ∨ s.stepsB ≠ 0#8) : s.wholeTick.act = true := by
  have hc : s.complete = false := Bool.eq_false_iff.mpr fun hc => by
    obtain ⟨-, hA, hB⟩ := State.complete_iff.mp hc
    exact hstep.elim (· hA) (· hB)
  rw [State.wholeTick_act, State.actNext, h.not_fire, hc, h.active]
  rfl

/-- Either nothing is left to send, or the tick sends the first of the bytes and the close goes on with the others. -/
theorem State.Closing.wholeTick :
    (s.sel = none ∧ s.closeBytes = [])
      ∨ ∃ c, s.sel = some c ∧ s.wholeTick.Closing ∧ s.closeBytes = c.code :: s.wholeTick.closeBytes := by
  have hf := h.not_fire
  have hrrst := h.settled.inv.wholeTick_rrst_eq hf
  have hstepsA : s.wholeTick.stepsA = if s.sel = some .stepA then s.stepsA - 1#8 else s.stepsA := by
    simp [State.stepsANext, hf]
  have hstepsB : s.wholeTick.stepsB = if s.sel = some .stepB then s.stepsB - 1#8 else s.stepsB := by
    simp [State.stepsBNext, hf]
  have hsettled := h.settled.wholeTick
  have hcount := h.settled.inv.rrstCount_eq
  obtain ⟨e, hn⟩ | ⟨e, -, hr⟩ | ⟨e, -, hr, hA⟩ | ⟨e, -, hr, hA, hB⟩ := s.sel_cases <;>
    simp only [e, reduceCtorEq, Option.some.injEq, reduceIte] at hrrst hstepsA hstepsB
  · obtain ⟨hr, hA, hB⟩ := hn.resolve_left (by simp [h.active])
    exact .inl ⟨e, by simp [State.closeBytes, ← hcount, hr, hA, hB]⟩
  · have hr' : s.rrst ≠ 0#8 := hcount ▸ hr
    have hstep : s.stepsA ≠ 0#8 ∨ s.stepsB ≠ 0#8 :=
      h.step_or_no_reset.imp id fun hB => hB.resolve_right hr'
    have hnext : s.wholeTick.Closing := ⟨hsettled, h.wholeTick_act hstep, by rw [hstepsA, hstepsB]; tauto⟩
    refine .inr ⟨_, e, hnext, ?_⟩
    rw [State.closeBytes, State.closeBytes, hrrst, hstepsA, hstepsB, replicate_of_ne_zero hr']
    rfl
  · have hnone : s.rrst = 0#8 := hcount ▸ hr
    have hnext : s.wholeTick.Closing :=
      ⟨hsettled, h.wholeTick_act (.inl hA), .inr (.inr (hrrst.trans hnone))⟩
    refine .inr ⟨_, e, hnext, ?_⟩
    rw [State.closeBytes, State.closeBytes, hrrst, hstepsA, hstepsB, hnone, replicate_of_ne_zero hA]
    rfl
  · have hnone : s.rrst = 0#8 := hcount ▸ hr
    have hnext : s.wholeTick.Closing :=
      ⟨hsettled, h.wholeTick_act (.inr hB), .inr (.inr (hrrst.trans hnone))⟩
    refine .inr ⟨_, e, hnext, ?_⟩
    rw [State.closeBytes, State.closeBytes, hrrst, hstepsA, hstepsB, hnone, hA, replicate_of_ne_zero hB]
    rfl

end Closing

/-- A whole tick hands to the dome's transport the command that it selects, and nothing else. -/
theorem State.Settled.sent_dtx_macroT {s : State} (h : s.Settled) :
    sent .dtx macroT s = (s.sel.map Command.code).toList := by
  have hbuf : (s.raiseTick.tickNext.drained .htx).buf .dtx = (s.raiseTick.tickCommand s.sel).buf .dtx := by
    rw [State.buf_drained_ne _ _ (by decide), State.buf_tickNext_dtx, State.raiseTick_sel]
  have hdrain : sent .dtx macroT s = sentBy .dtx (.txDrain .dtx) (s.raiseTick.tickNext.drained .htx) := by
    rw [macroT, sent_cons (exec_pulse s), sent_cons h.exec_tick, sent_cons (exec_txDrain_drained .htx _),
      sent_cons (exec_txDrain_drained .dtx _)]
    simp [sentBy, sent]
  rw [hdrain]
  cases hs : s.sel with
  | none =>
    rw [hs, State.tickCommand_none] at hbuf
    have hempty := (State.bufCanRead_congr hbuf).trans h.dtx_empty
    simp [sentBy, hempty]
  | some c =>
    rw [hs, State.tickCommand_some] at hbuf
    have hread := State.bufCanRead_of_push (d := .dtx) (s := s.raiseTick) (h.inv.bufFull_of_empty h.dtx_empty) hbuf
    have hfront := State.front_of_push (d := .dtx) (s := s.raiseTick) h.dtx_empty hbuf
    simp only [TxBuf.id_dtx] at hread hfront
    simp [sentBy, hread, hfront]

theorem domeTrace_of_script {l : List Instr} {s : State} (hwf : ∀ i ∈ l, i.wellFormed s.cfg = true)
    (h : s.script = l.map encode) : domeTrace l.length s = sent .dtx l s := by
  rw [domeTrace_eq_linkTrace, linkTrace_of_block_eq hwf h rfl]

section Close

variable {s : State}

/-- The close goes on as long as it has bytes to send. -/
theorem State.Closing.wholeTicks (h : s.Closing) {n : Nat} (hn : n ≤ s.closeBytes.length) :
    (State.wholeTick^[n] s).Closing ∧ (State.wholeTick^[n] s).closeBytes = s.closeBytes.drop n := by
  induction n with
  | zero => exact ⟨h, rfl⟩
  | succ n ih =>
    obtain ⟨hclose, hbytes⟩ := ih (by omega)
    rw [Function.iterate_succ_apply', ← List.tail_drop, ← hbytes]
    obtain ⟨-, hnil⟩ | ⟨c, -, hnext, hcons⟩ := hclose.wholeTick
    · have hlen := congrArg List.length (hbytes.symm.trans hnil)
      rw [List.length_drop, List.length_nil] at hlen
      omega
    · exact ⟨hnext, by rw [hcons, List.tail_cons]⟩

/-- What is sent over the whole ticks of the close, by induction on the bytes that are left. -/
theorem State.Closing.sent_macroTs (h : s.Closing) : sent .dtx (macroTs s.closeBytes.length) s = s.closeBytes := by
  generalize hb : s.closeBytes = bytes
  induction bytes generalizing s with
  | nil => rfl
  | cons b bytes ih =>
    obtain ⟨-, hnil⟩ | ⟨c, hsel, hnext, hcons⟩ := h.wholeTick
    · exact absurd (hnil.symm.trans hb) nofun
    · obtain ⟨rfl, htail⟩ := List.cons.inj (hcons.symm.trans hb)
      rw [List.length_cons, macroTs, sent_append h.settled.execAll_macroT, h.settled.sent_dtx_macroT, hsel,
        ih hnext htail]
      rfl

/-- With nothing left to send all three counters stand at 0. -/
theorem State.counters_of_closeBytes_nil (hnil : s.closeBytes = []) :
    s.rrst = 0#8 ∧ s.stepsA = 0#8 ∧ s.stepsB = 0#8 := by
  simpa [State.closeBytes, ← BitVec.toNat_inj, and_assoc] using hnil

/-- The tick after the last byte ends the sequence (R125). -/
theorem State.Closing.wholeTick_of_nil (h : s.Closing) (hnil : s.closeBytes = []) :
    s.wholeTick.act = false ∧ s.wholeTick.trig = true ∧ s.wholeTick.rrst = 0#8 ∧ s.wholeTick.stepsA = 0#8
      ∧ s.wholeTick.stepsB = 0#8 := by
  obtain ⟨hr, hA, hB⟩ := State.counters_of_closeBytes_nil hnil
  have hf := h.not_fire
  have hsel : s.sel = none :=
    State.sel_of_no_step h.active (h.settled.inv.rrstCount_eq.trans hr) hA hB
  refine ⟨?_, ?_, ?_, ?_, ?_⟩
  · rw [State.wholeTick_act, State.actNext_of_complete hf (State.complete_iff.mpr ⟨h.active, hA, hB⟩)]
  · rw [State.wholeTick_trig, State.trigNext_of_trig h.trig]
  · simp [h.settled.inv.wholeTick_rrst_eq hf, hsel, hr]
  · simp [State.stepsANext, hf, hsel, hA]
  · simp [State.stepsBNext, hf, hsel, hB]

end Close

/-- Settles O43: each whole tick sends the first of the bytes that are left, and the tick after the last ends the
sequence. -/
theorem unconfirmedCloseRunsItsLength : Obligations.UnconfirmedCloseRunsItsLength := by
  intro s hinv ha hhtx hdtx hdue
  have h : s.Closing := ⟨⟨hinv, hhtx, hdtx⟩, ha, hdue⟩
  rw [← s.length_closeBytes]
  refine ⟨fun n hn => ?_, ?_, ?_⟩
  · obtain ⟨hclose, -⟩ := h.wholeTicks hn
    exact ⟨_, h.settled.execAll_macroTs n, hclose.active⟩
  · obtain ⟨hclose, hbytes⟩ := h.wholeTicks le_rfl
    refine ⟨_, h.settled.execAll_macroTs _, ?_⟩
    rw [Function.iterate_succ_apply']
    exact hclose.wholeTick_of_nil (hbytes.trans (List.drop_length ..))
  · rintro n hscript rfl
    rw [← length_macroTs, domeTrace_of_script (fun _ => wellFormed_of_mem_macroTs) hscript, h.sent_macroTs]
    rfl

end Sys2Proof.Machine

/-!
Proof of the family 44_dome_responses.md: the effect of each dome response (R140 to R143), which asks nothing of the
state (R144).
-/

namespace Sys2Proof.Machine

/-- Settles O20: the execution equations of the four responses. -/
theorem domeResponsesZeroTheirCounters : Obligations.DomeResponsesZeroTheirCounters := fun s c =>
  ⟨exec_dClosedA s, exec_dClosedB s, exec_dClosedBoth s, exec_dOther c s⟩

end Sys2Proof.Machine

/-!
Proofs of the family 45_status_and_outputs.md: the status byte (R150, R151) and the output pins (R152 to R155) as
functions of the state.
-/

namespace Sys2Proof.Machine

/-! ### The status byte -/

section Status

variable {s : State}

/-- The last branch of R150; the first two are `statusNow_of_act` and `statusNow_of_idle`. -/
theorem State.statusNow_of_not_trig (ha : s.act = false) (ht : s.trig = false) : s.statusNow = s.hb := by
  simp [State.statusNow, statusByte, ha, ht]

/-- A counter of at most 240 is not the sentinel, so by I5 and I1 neither flag is set and the status is the counter. -/
theorem State.Inv.statusNow_of_le (h : s.Inv) (hle : s.hb.toNat ≤ 240) : s.statusNow = s.hb := by
  have ht : s.trig = false := Bool.eq_false_iff.mpr fun ht => ne_sentinel_of_le hle (h.trig_iff.mp ht)
  have ha : s.act = false := Bool.eq_false_iff.mpr fun ha => Bool.eq_false_iff.mp ht (h.act_trig ha)
  exact State.statusNow_of_not_trig ha ht

/-- The four rows of R24, none of which is left out where the invariants hold. -/
theorem State.Inv.conceptual_cases (h : s.Inv) :
    (s.conceptual = some .disabled ∧ s.hb = 0#8)
      ∨ (s.conceptual = some .counting ∧ s.hb ≠ 0#8 ∧ s.hb.toNat ≤ 240)
      ∨ (s.conceptual = some .triggeredClosing ∧ s.act = true)
      ∨ (s.conceptual = some .triggeredIdle ∧ s.act = false ∧ s.trig = true) := by
  unfold State.conceptual
  by_cases h0 : s.hb = 0#8
  · exact .inl ⟨if_pos h0, h0⟩
  by_cases hle : s.hb.toNat ≤ 240
  · exact .inr (.inl ⟨by rw [if_neg h0, if_pos hle], h0, hle⟩)
  have hs : s.hb = sentinel := h.hb_range.resolve_left hle
  rw [if_neg h0, if_neg hle, if_pos hs]
  cases ha : s.act with
  | true => exact .inr (.inr (.inl ⟨rfl, rfl⟩))
  | false => exact .inr (.inr (.inr ⟨rfl, rfl, h.trig_iff.mpr hs⟩))

end Status

/-- Settles O49: the byte returned is `statusNow`, one branch of R150 for each clause. -/
theorem statusReturnsTheStatusByte : Obligations.StatusReturnsTheStatusByte := fun s =>
  ⟨s.statusNow, exec_status s, State.statusNow_of_act, State.statusNow_of_idle, State.statusNow_of_not_trig⟩

/-- Settles O50, row by row of R24. -/
theorem statusByteTellsTheConceptualState : Obligations.StatusByteTellsTheConceptualState := by
  intro s h
  obtain ⟨hc, h0⟩ | ⟨hc, h0, hle⟩ | ⟨hc, ha⟩ | ⟨hc, ha, ht⟩ := h.conceptual_cases <;> rw [hc]
  case inl =>
    have hst : s.statusNow = 0#8 := (h.statusNow_of_le (by simp [h0])).trans h0
    simp [hst]
  case inr.inl =>
    have hpos : 1 ≤ s.hb.toNat := Nat.one_le_iff_ne_zero.mpr fun hz => h0 (BitVec.eq_of_toNat_eq hz)
    simp [h.statusNow_of_le hle, hpos, hle]
  case inr.inr.inl => simp [State.statusNow_of_act ha]
  case inr.inr.inr => simp [State.statusNow_of_idle ha ht]

/-! ### The output pins -/

section Pins

variable {s : State}

/-- The siren output, whether there is a siren or not (R153, R16). -/
theorem State.sirenO_iff_unit : s.sirenO = true ↔ s.cfg.hasSiren = true ∧ s.siren ≠ 0#8 := by
  cases hunit : s.cfg.hasSiren with
  | true => simpa using State.sirenO_iff hunit
  | false => simp [State.sirenO_of_no_siren hunit]

theorem State.indModeO_of_trig (ht : s.trig = true) : s.indModeO = 2#2 := if_pos ht

theorem State.indModeO_of_armed (ht : s.trig = false) (h0 : s.hb ≠ 0#8) : s.indModeO = 1#2 := by
  simp [State.indModeO, ht, h0]

theorem State.indModeO_of_disabled (ht : s.trig = false) (h0 : s.hb = 0#8) : s.indModeO = 0#2 := by
  simp [State.indModeO, ht, h0]

end Pins

/-- Settles O51: the relay and the blink indicator are the state's own fields. -/
theorem outputPinsFollowTheState : Obligations.OutputPinsFollowTheState := fun _ =>
  ⟨rfl, State.sirenO_iff_unit, State.indModeO_of_trig, State.indModeO_of_armed, State.indModeO_of_disabled, rfl⟩

end Sys2Proof.Machine

/-!
Proofs of the family 46_mainloop.md: the two polls (R160, R161), which commute (R164), and the transitions between the
conceptual states (R165), from what an operation does to the counter and to the two flags.
-/

namespace Sys2Proof.Machine

/-! ### The conceptual states by the counter and the flags (R24) -/

section Conceptual

variable {s : State} (h : s.Inv)
include h

theorem State.Inv.conceptual_disabled_iff : s.conceptual = some .disabled ↔ s.hb = 0#8 := by
  obtain ⟨hc, h0⟩ | ⟨hc, h0, -⟩ | ⟨hc, ha⟩ | ⟨hc, -, ht⟩ := h.conceptual_cases
  · simp [hc, h0]
  · simp [hc, h0]
  · simp [hc, h.trig_iff.mp (h.act_trig ha), sentinel]
  · simp [hc, h.trig_iff.mp ht, sentinel]

theorem State.Inv.conceptual_counting_iff : s.conceptual = some .counting ↔ s.hb ≠ 0#8 ∧ s.trig = false := by
  obtain ⟨hc, h0⟩ | ⟨hc, h0, hle⟩ | ⟨hc, ha⟩ | ⟨hc, -, ht⟩ := h.conceptual_cases
  · simp [hc, h0]
  · have ht : s.trig = false := Bool.eq_false_iff.mpr fun ht => ne_sentinel_of_le hle (h.trig_iff.mp ht)
    simp [hc, h0, ht]
  · simp [hc, h.act_trig ha]
  · simp [hc, ht]

theorem State.Inv.conceptual_closing_iff :
    s.conceptual = some .triggeredClosing ↔ s.trig = true ∧ s.act = true := by
  obtain ⟨hc, h0⟩ | ⟨hc, -, hle⟩ | ⟨hc, ha⟩ | ⟨hc, ha, -⟩ := h.conceptual_cases
  · simp [hc, h.act_of_disabled h0]
  · have ht : s.trig ≠ true := fun ht => ne_sentinel_of_le hle (h.trig_iff.mp ht)
    simp [hc, ht]
  · simp [hc, ha, h.act_trig ha]
  · simp [hc, ha]

theorem State.Inv.conceptual_idle_iff :
    s.conceptual = some .triggeredIdle ↔ s.trig = true ∧ s.act = false := by
  obtain ⟨hc, h0⟩ | ⟨hc, -, hle⟩ | ⟨hc, ha⟩ | ⟨hc, ha, ht⟩ := h.conceptual_cases
  · simp [hc, h.act_of_disabled h0]
  · have ht : s.trig ≠ true := fun ht => ne_sentinel_of_le hle (h.trig_iff.mp ht)
    simp [hc, ht]
  · simp [hc, ha]
  · simp [hc, ha, ht]

theorem State.Inv.exists_conceptual : ∃ a, s.conceptual = some a := by
  obtain ⟨hc, -⟩ | ⟨hc, -⟩ | ⟨hc, -⟩ | ⟨hc, -⟩ := h.conceptual_cases <;> exact ⟨_, hc⟩

end Conceptual

/-! ### The transition table (R165) -/

/-- The last paragraph of R165 on the counter and the flags: a trigger ends in disabled only, a close sequence does not
start again, no trigger comes without a count, and a trigger starts a close sequence. -/
structure State.Follows (s t : State) : Prop where
  trig_kept : s.trig = true → t.hb = 0#8 ∨ t.trig = true
  act_kept : s.trig = true → t.act = true → s.act = true
  trig_of_disabled : s.hb = 0#8 → t.trig = false
  act_of_trig : s.trig = false → t.trig = true → t.act = true

section Follows

variable {s t : State}

theorem State.Follows.not_counting (hf : s.Follows t) (ht : t.Inv) (htrig : s.trig = true) :
    t.conceptual ≠ some .counting := fun hc => by
  obtain ⟨h0, hnot⟩ := ht.conceptual_counting_iff.mp hc
  exact (hf.trig_kept htrig).elim h0 (Bool.eq_false_iff.mp hnot)

theorem State.Follows.mayFollow (hf : s.Follows t) (hs : s.Inv) (ht : t.Inv) {a b : Conceptual}
    (ha : s.conceptual = some a) (hb : t.conceptual = some b) : a.mayFollow b = true := by
  cases a with
  | disabled =>
    have hnot : t.trig ≠ true :=
      Bool.eq_false_iff.mp (hf.trig_of_disabled (hs.conceptual_disabled_iff.mp ha))
    cases b with
    | disabled | counting => rfl
    | triggeredClosing => exact absurd (ht.conceptual_closing_iff.mp hb).1 hnot
    | triggeredIdle => exact absurd (ht.conceptual_idle_iff.mp hb).1 hnot
  | counting =>
    cases b with
    | disabled | counting | triggeredClosing => rfl
    | triggeredIdle =>
      obtain ⟨-, hnot⟩ := hs.conceptual_counting_iff.mp ha
      obtain ⟨htrig, hidle⟩ := ht.conceptual_idle_iff.mp hb
      exact absurd (hf.act_of_trig hnot htrig) (Bool.eq_false_iff.mp hidle)
  | triggeredClosing =>
    obtain ⟨htrig, -⟩ := hs.conceptual_closing_iff.mp ha
    cases b with
    | disabled | triggeredClosing | triggeredIdle => rfl
    | counting => exact absurd hb (hf.not_counting ht htrig)
  | triggeredIdle =>
    obtain ⟨htrig, hidle⟩ := hs.conceptual_idle_iff.mp ha
    cases b with
    | disabled | triggeredIdle => rfl
    | counting => exact absurd hb (hf.not_counting ht htrig)
    | triggeredClosing =>
      obtain ⟨-, hact⟩ := ht.conceptual_closing_iff.mp hb
      exact absurd (hf.act_kept htrig hact) (Bool.eq_false_iff.mp hidle)

/-- An operation that leaves the flags moves between disabled and counting at most. -/
theorem State.Inv.follows_of_flags (h : s.Inv) (htrig : t.trig = s.trig) (hact : t.act = s.act) : s.Follows t where
  trig_kept hs := .inr (htrig.trans hs)
  act_kept _ ha := hact ▸ ha
  trig_of_disabled h0 := htrig.trans (h.act_of_disabled h0).1
  act_of_trig hs ht := absurd (htrig ▸ ht) (Bool.eq_false_iff.mp hs)

theorem State.follows_of_disabled (h0 : t.hb = 0#8) (htrig : t.trig = false) (hact : t.act = false) : s.Follows t where
  trig_kept _ := .inl h0
  act_kept _ ha := absurd ha (Bool.eq_false_iff.mp hact)
  trig_of_disabled _ := htrig
  act_of_trig _ ht := absurd ht (Bool.eq_false_iff.mp htrig)

theorem State.Inv.follows_obeyHost (h : s.Inv) (c : HostCommand) : s.Follows (s.obeyHost c) := by
  cases c with
  | disable => exact State.follows_of_disabled rfl rfl rfl
  | arm v => exact h.follows_of_flags (s.obeyHost_arm_trig v) (s.obeyHost_arm_act v)
  | siren => exact h.follows_of_flags s.obeyHost_siren_trig s.obeyHost_siren_act
  | reserved v => exact h.follows_of_flags rfl rfl

theorem State.act_of_actNext (hf : s.fire = false) (ha : s.actNext = true) : s.act = true := by
  simp only [State.actNext, hf, Bool.false_eq_true, if_false] at ha
  split at ha
  exacts [absurd ha nofun, ha]

theorem State.fire_of_trigNext (ht : s.trig = false) (hn : s.trigNext = true) : s.fire = true := by
  by_contra hf
  rw [State.trigNext_of_not_fire (Bool.eq_false_iff.mpr hf), ht] at hn
  cases hn

/-- A tick sets a flag by firing only, and it fires in a counting controller only (R124). -/
theorem State.Inv.follows_tickNext (h : s.Inv) : s.Follows s.tickNext where
  trig_kept ht := .inr (s.tickNext_trig.trans (State.trigNext_of_trig ht))
  act_kept ht ha := State.act_of_actNext (h.fire_of_trig ht) (s.tickNext_act ▸ ha)
  trig_of_disabled h0 := by
    rw [State.tickNext_trig, State.trigNext_of_not_fire (State.fire_of_disabled h0), (h.act_of_disabled h0).1]
  act_of_trig hs ht :=
    s.tickNext_act.trans (State.actNext_of_fire (State.fire_of_trigNext hs (s.tickNext_trig ▸ ht)))

theorem Effect.follows {i : Instr} (e : Effect i s t) (h : s.Inv) : s.Follows t := by
  cases e with
  | tick _ _ _ => exact h.follows_tickNext
  | hostCommand c => exact h.follows_obeyHost c
  | hostPoll hc =>
    have hf := (h.popped hc).follows_obeyHost (Sys2Proof.hostCommand s.cfg (s.front .hrx))
    exact ⟨hf.trig_kept, hf.act_kept, hf.trig_of_disabled, hf.act_of_trig⟩
  | reset => exact State.follows_of_disabled rfl rfl rfl
  | _ => exact h.follows_of_flags (by simp [State.terminalCount_eq]) (by simp [State.terminalCount_eq])

end Follows

theorem State.afterFetch_conceptual (s : State) : s.afterFetch.conceptual = s.conceptual := by
  rw [State.afterFetch_spec]
  rfl

/-- Settles O15: every effect of an operation follows the table, and both states satisfy the invariant (O12). -/
theorem stepFollowsTheTransitionTable : Obligations.StepFollowsTheTransitionTable := by
  intro s t hs hstep
  obtain ⟨i, -, hexec⟩ := step_next hstep
  have ht : t.Inv := everyStepKeepsTheInvariant s t hs hstep
  obtain ⟨a, ha⟩ := hs.exists_conceptual
  obtain ⟨b, hb⟩ := ht.exists_conceptual
  have hfollows := (exec_effect hexec).follows hs.afterFetch
  exact ⟨a, b, ha, hb, hfollows.mayFollow hs.afterFetch ht (s.afterFetch_conceptual.trans ha) hb⟩

/-! ### The rows of TICK (R165) -/

section TickRows

variable {s : State} (h : s.Inv)
include h

theorem State.Inv.tickNext_of_disabled (hc : s.conceptual = some .disabled) :
    s.tickNext.conceptual = some .disabled := by
  rw [h.tickNext.conceptual_disabled_iff, State.tickNext_hb]
  exact State.hbNext_of_disabled (h.conceptual_disabled_iff.mp hc)

/-- A tick that does not fire leaves a counting controller counting, if the counter does not reach 0. -/
theorem State.Inv.tickNext_counting (hc : s.conceptual = some .counting) (hf : s.fire = false)
    (hn : s.hbNext ≠ 0#8) : s.tickNext.conceptual = some .counting := by
  rw [h.tickNext.conceptual_counting_iff, State.tickNext_hb, State.tickNext_trig, State.trigNext_of_not_fire hf]
  exact ⟨hn, (h.conceptual_counting_iff.mp hc).2⟩

theorem State.Inv.tickNext_of_dec (hc : s.conceptual = some .counting) (hphase : s.phase = s.cfg.ticksPerCount - 1)
    (h2 : 2 ≤ s.hb.toNat) : s.tickNext.conceptual = some .counting ∧ s.tickNext.hb = s.hb - 1#8 := by
  obtain ⟨h0, htrig⟩ := h.conceptual_counting_iff.mp hc
  have h1 : s.hb ≠ 1#8 := (byte_ne_of_two_le h2).2
  have h255 : s.hb ≠ sentinel := fun hs => Bool.eq_false_iff.mp htrig (h.trig_iff.mpr hs)
  have hhb : s.hbNext = s.hb - 1#8 := State.hbNext_of_dec (State.dec_iff.mpr ⟨h0, h255, hphase⟩) h1
  refine ⟨h.tickNext_counting hc (State.fire_of_ne_one h1) ?_, s.tickNext_hb.trans hhb⟩
  rw [hhb]
  exact fun hz => h1 (byte_sub_one_eq_zero.mp hz)

theorem State.Inv.tickNext_of_other_phase (hc : s.conceptual = some .counting)
    (hphase : s.phase ≠ s.cfg.ticksPerCount - 1) :
    s.tickNext.conceptual = some .counting ∧ s.tickNext.hb = s.hb := by
  have hdec : s.dec = false := Bool.eq_false_iff.mpr fun hdec => hphase (State.dec_iff.mp hdec).2.2
  have hhb := State.hbNext_of_not_dec hdec
  refine ⟨h.tickNext_counting hc (State.fire_of_not_dec hdec) ?_, s.tickNext_hb.trans hhb⟩
  rw [hhb]
  exact (h.conceptual_counting_iff.mp hc).1

theorem State.Inv.tickNext_of_fire (hf : s.fire = true) : s.tickNext.conceptual = some .triggeredClosing := by
  rw [h.tickNext.conceptual_closing_iff, State.tickNext_trig, State.tickNext_act]
  exact ⟨State.trigNext_of_fire hf, State.actNext_of_fire hf⟩

theorem State.Inv.tickNext_of_step (hc : s.conceptual = some .triggeredClosing)
    (hstep : s.stepsA ≠ 0#8 ∨ s.stepsB ≠ 0#8) :
    s.tickNext.conceptual = some .triggeredClosing ∧ s.tickNext.gate = true := by
  obtain ⟨htrig, hact⟩ := h.conceptual_closing_iff.mp hc
  have hcomplete : s.complete = false := Bool.eq_false_iff.mpr fun hcomplete => by
    obtain ⟨-, hA, hB⟩ := State.complete_iff.mp hcomplete
    exact hstep.elim (· hA) (· hB)
  have hactNext : s.actNext = true := by simp [State.actNext, hcomplete, hact]
  rw [h.tickNext.conceptual_closing_iff, State.tickNext_trig, State.tickNext_act, State.tickNext_gate]
  exact ⟨⟨State.trigNext_of_trig htrig, hactNext⟩, State.sel_isSome_iff.mpr ⟨hact, .inr hstep⟩⟩

/-- A triggered controller whose close does not go on over the tick is idle after it. -/
theorem State.Inv.tickNext_idle (ht : s.trig = true) (ha : s.actNext = false) :
    s.tickNext.conceptual = some .triggeredIdle := by
  rw [h.tickNext.conceptual_idle_iff, State.tickNext_trig, State.tickNext_act]
  exact ⟨State.trigNext_of_trig ht, ha⟩

theorem State.Inv.tickNext_of_complete (hc : s.conceptual = some .triggeredClosing) (hA : s.stepsA = 0#8)
    (hB : s.stepsB = 0#8) : s.tickNext.conceptual = some .triggeredIdle ∧ s.tickNext.relayO = false := by
  obtain ⟨htrig, hact⟩ := h.conceptual_closing_iff.mp hc
  have hactNext : s.actNext = false :=
    State.actNext_of_complete (h.fire_of_trig htrig) (State.complete_iff.mpr ⟨hact, hA, hB⟩)
  exact ⟨h.tickNext_idle htrig hactNext, s.tickNext_act.trans hactNext⟩

theorem State.Inv.tickNext_of_idle (hc : s.conceptual = some .triggeredIdle) :
    s.tickNext.conceptual = some .triggeredIdle := by
  obtain ⟨htrig, hidle⟩ := h.conceptual_idle_iff.mp hc
  refine h.tickNext_idle htrig (Bool.eq_false_iff.mpr fun ha => Bool.eq_false_iff.mp hidle ?_)
  exact State.act_of_actNext (h.fire_of_trig htrig) ha

end TickRows

/-- Settles O41, one lemma for each row. -/
theorem tickMovesBetweenConceptualStates : Obligations.TickMovesBetweenConceptualStates := by
  intro s t h hp hh hd hexec
  obtain rfl := eq_tickNext_of_exec_tick hp hh hd hexec
  exact ⟨h.tickNext_of_disabled, h.tickNext_of_dec, h.tickNext_of_other_phase,
    fun _ hphase h1 => h.tickNext_of_fire (State.fire_of_one h1 hphase), h.tickNext_of_step, h.tickNext_of_complete,
    h.tickNext_of_idle⟩

/-! ### A poll is the pop and the operation of the byte (R160, R161) -/

theorem exec_hostCommand_instr (c : HostCommand) (s : State) : exec c.instr s = .next (s.obeyHost c) := by
  cases c <;> rfl

theorem exec_domeResponse_instr (r : DomeResponse) (s : State) : exec r.instr s = .next (s.obeyDome r) := by
  cases r <;> rfl

theorem decode_domeToDevice (c : Config) (b : Byte) :
    decode c (.message .domeToDevice b) = .instr (domeResponse b).instr := rfl

section Polls

variable {s : State}

theorem exec_hostPoll_of_canRead (hc : s.bufCanRead .hrx = true) :
    exec .hostPoll s = .next ((s.popped .hrx).obeyHost (hostCommand s.cfg (s.front .hrx))) := by
  rw [exec_hostPoll, if_pos hc, State.onHostByte, State.popped_cfg]

theorem exec_hostPoll_of_empty (hc : s.bufCanRead .hrx = false) : exec .hostPoll s = .next s := by
  rw [exec_hostPoll, if_neg (Bool.eq_false_iff.mp hc)]

theorem exec_domePoll_of_canRead (hc : s.bufCanRead .drx = true) :
    exec .domePoll s = .next ((s.popped .drx).obeyDome (domeResponse (s.front .drx))) := by
  rw [exec_domePoll, if_pos hc, State.onDomeByte]

theorem exec_domePoll_of_empty (hc : s.bufCanRead .drx = false) : exec .domePoll s = .next s := by
  rw [exec_domePoll, if_neg (Bool.eq_false_iff.mp hc)]

theorem exists_instr_of_hostPoll (hc : s.bufCanRead .hrx = true) :
    ∃ (i : Instr) (t : State), decode s.cfg (.message .hostToDevice (s.front .hrx)) = .instr i
      ∧ exec i (s.popped .hrx) = .next t ∧ exec .hostPoll s = .next t :=
  ⟨_, _, decode_hostToDevice .., exec_hostCommand_instr .., exec_hostPoll_of_canRead hc⟩

theorem exists_instr_of_domePoll (hc : s.bufCanRead .drx = true) :
    ∃ (i : Instr) (t : State), decode s.cfg (.message .domeToDevice (s.front .drx)) = .instr i
      ∧ exec i (s.popped .drx) = .next t ∧ exec .domePoll s = .next t :=
  ⟨_, _, decode_domeToDevice .., exec_domeResponse_instr .., exec_domePoll_of_canRead hc⟩

end Polls

/-- Settles O52: the popped state is the one that the statement writes out, for a slot that has been written and for one
that has not. -/
theorem hostPollPerformsTheCommand : Obligations.HostPollPerformsTheCommand := by
  refine fun s => ⟨fun b hc hb => ?_, fun hc hb => ?_, exec_hostPoll_of_empty⟩
  · obtain ⟨rfl, hpop⟩ := State.pop_written (f := .hrx) hb
    have hpoll := exists_instr_of_hostPoll hc
    rwa [hpop] at hpoll
  · obtain ⟨-, hpop⟩ := State.pop_unwritten (f := .hrx) hb
    exact ⟨_, hpop ▸ exists_instr_of_hostPoll hc⟩

/-- Settles O53, as O52. -/
theorem domePollPerformsTheResponse : Obligations.DomePollPerformsTheResponse := by
  refine fun s => ⟨fun b hc hb => ?_, fun hc hb => ?_, exec_domePoll_of_empty⟩
  · obtain ⟨rfl, hpop⟩ := State.pop_written (f := .drx) hb
    have hpoll := exists_instr_of_domePoll hc
    rwa [hpop] at hpoll
  · obtain ⟨-, hpop⟩ := State.pop_unwritten (f := .drx) hb
    exact ⟨_, hpop ▸ exists_instr_of_domePoll hc⟩

/-! ### The polls of the two links (R164)

A command leaves the receive buffers and the step counters, a response the receive buffers and the counter, the flags
and the siren; so the two pops, the command and the response can be performed in any order. -/

section PollsCommute

variable {s : State}

/-- The byte at the read cursor, where it has been written, is a matter of the buffer alone. -/
theorem State.Inv.front_congr (h : s.Inv) {t : State} {f : BufId} (hc : s.bufCanRead f = true)
    (hbuf : t.buf f = s.buf f) : t.front f = s.front f := by
  obtain ⟨b, hb⟩ := (h.buf_inv f).front_written ((s.bufCanRead_iff f).mp hc)
  rw [(State.pop_written hb).1, (State.pop_written (hbuf ▸ hb)).1]

theorem State.popped_hrx_drx_comm (s : State) : (s.popped .hrx).popped .drx = (s.popped .drx).popped .hrx := by
  have hdraws : s.draws + s.frontDraws .hrx + s.frontDraws .drx = s.draws + s.frontDraws .drx + s.frontDraws .hrx :=
    Nat.add_right_comm ..
  exact congrArg (fun n => { (s.popped .hrx).popped .drx with draws := n }) hdraws

theorem State.arm_eq (s : State) (v : Byte) : s.arm v = { s with hb := if s.trig then s.hb else v } := by
  unfold State.arm
  split <;> rfl

theorem State.popped_obeyHost (s : State) (f : BufId) (c : HostCommand) :
    (s.obeyHost c).popped f = (s.popped f).obeyHost c := by
  cases c with
  | disable => cases f <;> rfl
  | arm v =>
    simp only [State.obeyHost, State.arm_eq]
    cases f <;> rfl
  | siren =>
    simp only [State.obeyHost, State.armSiren, State.setSiren_eq]
    cases f <;> rfl
  | reserved v => rfl

theorem State.popped_obeyDome (s : State) (f : BufId) (r : DomeResponse) :
    (s.obeyDome r).popped f = (s.popped f).obeyDome r := by
  cases r <;> cases f <;> rfl

theorem State.obeyHost_obeyDome (s : State) (c : HostCommand) (r : DomeResponse) :
    (s.obeyHost c).obeyDome r = (s.obeyDome r).obeyHost c := by
  cases c with
  | disable => cases r <;> rfl
  | arm v =>
    simp only [State.obeyHost, State.arm_eq]
    cases r <;> rfl
  | siren =>
    simp only [State.obeyHost, State.armSiren, State.setSiren_eq]
    cases r <;> rfl
  | reserved v => rfl

/-! Neither poll touches the other's buffer. -/

theorem exec_hostPoll_drx {t : State} (h : exec .hostPoll s = .next t) : t.buf .drx = s.buf .drx := by
  rw [exec_hostPoll, State.onHostByte] at h
  cases h
  split
  · rw [State.buf_obeyHost]
    rfl
  · rfl

theorem exec_domePoll_hrx {t : State} (h : exec .domePoll s = .next t) : t.buf .hrx = s.buf .hrx := by
  rw [exec_domePoll, State.onDomeByte] at h
  cases h
  split
  · rw [State.buf_obeyDome]
    rfl
  · rfl

theorem polls_comm_of_hrx_empty (hh : s.bufCanRead .hrx = false) :
    execAll [.hostPoll, .domePoll] s = execAll [.domePoll, .hostPoll] s := by
  obtain ⟨t, ht, -⟩ := exec_next_effect .domePoll s
  have hh' : t.bufCanRead .hrx = false := (State.bufCanRead_congr (exec_domePoll_hrx ht)).trans hh
  rw [execAll_pair (exec_hostPoll_of_empty hh) ht, execAll_pair ht (exec_hostPoll_of_empty hh')]

theorem polls_comm_of_drx_empty (hd : s.bufCanRead .drx = false) :
    execAll [.hostPoll, .domePoll] s = execAll [.domePoll, .hostPoll] s := by
  obtain ⟨t, ht, -⟩ := exec_next_effect .hostPoll s
  have hd' : t.bufCanRead .drx = false := (State.bufCanRead_congr (exec_hostPoll_drx ht)).trans hd
  rw [execAll_pair ht (exec_domePoll_of_empty hd'), execAll_pair (exec_domePoll_of_empty hd) ht]

theorem State.Inv.polls_comm_of_canRead (h : s.Inv) (hh : s.bufCanRead .hrx = true)
    (hd : s.bufCanRead .drx = true) : execAll [.hostPoll, .domePoll] s = execAll [.domePoll, .hostPoll] s := by
  have hhost := exec_hostPoll_of_canRead hh
  have hdome := exec_domePoll_of_canRead hd
  have hdrx := exec_hostPoll_drx hhost
  have hhrx := exec_domePoll_hrx hdome
  rw [execAll_pair hhost (exec_domePoll_of_canRead ((State.bufCanRead_congr hdrx).trans hd)),
    execAll_pair hdome (exec_hostPoll_of_canRead ((State.bufCanRead_congr hhrx).trans hh)),
    h.front_congr hd hdrx, h.front_congr hh hhrx, State.popped_obeyHost, State.popped_obeyDome,
    State.popped_hrx_drx_comm, State.obeyHost_obeyDome, State.obeyDome_cfg, State.popped_cfg]

end PollsCommute

/-- Settles O54, by which of the two buffers holds a byte; the invariant says that the byte has been written, so that
neither pop draws a free value (log 8). -/
theorem pollsOfTheTwoLinksCommute : Obligations.PollsOfTheTwoLinksCommute := by
  intro s h
  cases hh : s.bufCanRead .hrx with
  | false => exact polls_comm_of_hrx_empty hh
  | true =>
    cases hd : s.bufCanRead .drx with
    | false => exact polls_comm_of_drx_empty hd
    | true => exact h.polls_comm_of_canRead hh hd

end Sys2Proof.Machine

/-!
Proofs of the family 60_exceptions.md: no operation raises an exception (R170), a step without a script is an agent's
operation (R176, R178), and which operations a clock cycle holds (R176, R89).
-/

namespace Sys2Proof.Machine

/-! ### Operations and steps -/

/-- Settles O10: every operation has one of the effects that `Effect` lists, each on a next state. -/
theorem everyOperationHasANextState : Obligations.EveryOperationHasANextState := by
  intro i s
  obtain ⟨t, ht, -⟩ := exec_next_effect i s
  exact ⟨t, ht⟩

section EmptyScript

variable {s : State} (h : s.script = [])
include h

theorem State.nextStimulus_of_script_nil : s.nextStimulus = .event (Config.environment s.draws).event := by
  simp [State.nextStimulus, h]

theorem State.afterFetch_of_script_nil :
    s.afterFetch = { s with draws := s.draws + 1, htxOut := none, dtxOut := none, tickO := false, ret := none } := by
  simp [State.afterFetch, State.quiet, h]

end EmptyScript

/-- Settles O9: the operation is the environment's choice at this draw, whose event line decodes to it. -/
theorem stepWithoutScriptIsAnAgentsOperation : Obligations.StepWithoutScriptIsAnAgentsOperation := by
  intro s hscript
  refine ⟨Config.environment s.draws, ?_⟩
  rw [← State.afterFetch_of_script_nil hscript]
  exact step_of_decode (by rw [State.nextStimulus_of_script_nil hscript]; rfl)

/-! ### What a clock cycle holds -/

/-- Which operations a cycle without `rst` holds, one row for each (R82, R88, R176); `mem_cycleOps_iff` ties it to
`cycleOps`. -/
def State.InCycle (s : State) (inp : Inputs) : AgentOp → Prop
  | .clk => True
  | .pulse => False
  | .tick => s.enabled .tick = true
  | .hostPoll => s.enabled .tick = false ∧ s.enabled .hostPoll = true
  | .domePoll => s.enabled .tick = false ∧ s.enabled .hostPoll = false ∧ s.enabled .domePoll = true
  | .rxArrive .hrx b => inp.hrx = some b ∧ s.bufFull .hrx = false
  | .rxArrive .drx b => inp.drx = some b ∧ s.bufFull .drx = false
  | .txDrain .htx => inp.htxReady = true ∧ s.bufCanRead .htx = true
  | .txDrain .dtx => inp.dtxReady = true ∧ s.bufCanRead .dtx = true
  | .reset => False

section CycleMembers

variable {s : State} {op : AgentOp} {inp : Inputs}

theorem State.cycleOps_of_rst (h : inp.rst = true) : s.cycleOps inp = [.reset] := if_pos h

theorem State.mem_cycleOps_iff_parts (h : inp.rst = false) :
    op ∈ s.cycleOps inp ↔
      (s.bufFull .hrx = false ∧ ∃ b, inp.hrx = some b ∧ op = .rxArrive .hrx b)
        ∨ (s.bufFull .drx = false ∧ ∃ b, inp.drx = some b ∧ op = .rxArrive .drx b)
        ∨ (inp.htxReady = true ∧ s.bufCanRead .htx = true ∧ op = .txDrain .htx)
        ∨ (inp.dtxReady = true ∧ s.bufCanRead .dtx = true ∧ op = .txDrain .dtx)
        ∨ op ∈ s.controllerOp ∨ op = .clk := by
  simp [State.cycleOps, h, State.mem_portArrive_iff, State.mem_portDrain_iff]

/-- The controller's operation is the first of TICK, HOST_POLL and DOME_POLL that is enabled (R176). -/
theorem State.mem_controllerOp_iff :
    op ∈ s.controllerOp ↔
      (op = .tick ∧ s.enabled .tick = true)
        ∨ (op = .hostPoll ∧ s.enabled .tick = false ∧ s.enabled .hostPoll = true)
        ∨ (op = .domePoll ∧ s.enabled .tick = false ∧ s.enabled .hostPoll = false ∧ s.enabled .domePoll = true) := by
  obtain ⟨ht, e⟩ | ⟨ht, hh, e⟩ | ⟨ht, hh, hd, e⟩ | ⟨ht, hh, hd, e⟩ := s.controllerOp_cases
  · simp [e, ht]
  · simp [e, ht, hh]
  · simp [e, ht, hh, hd]
  · simp [e, ht, hh, hd]

theorem State.mem_cycleOps_iff (h : inp.rst = false) : op ∈ s.cycleOps inp ↔ s.InCycle inp op := by
  rw [State.mem_cycleOps_iff_parts h, State.mem_controllerOp_iff]
  cases op with
  | rxArrive f b => cases f <;> simp [State.InCycle, and_comm]
  | txDrain f => cases f <;> simp [State.InCycle]
  | clk | pulse | tick | hostPoll | domePoll | reset => simp [State.InCycle]

theorem State.cycleOps_nodup : (s.cycleOps inp).Nodup :=
  (s.cycleOps_agents inp).imp fun ⟨_, hagent⟩ e => hagent (congrArg AgentOp.agent e)

end CycleMembers

/-- Settles O56: each operation of a cycle is ready at its start and of an agent of its own, and which they are is read
off the rows of `InCycle`. -/
theorem clockCycleChoosesByPriority : Obligations.ClockCycleChoosesByPriority := by
  intro s inp
  refine ⟨State.cycleOps_of_rst, fun h => ?_⟩
  have hmem (op : AgentOp) : op ∈ s.cycleOps inp ↔ s.InCycle inp op := State.mem_cycleOps_iff h
  have henabled (op : AgentOp) (hop : op ∈ s.cycleOps inp) : s.enabled op = true :=
    (State.ready_of_mem_cycleOps hop).left
  exact ⟨henabled, State.cycleOps_nodup, fun b => hmem (.rxArrive .hrx b), fun b => hmem (.rxArrive .drx b),
    hmem (.txDrain .htx), hmem (.txDrain .dtx), (hmem .clk).mpr trivial, (hmem .pulse).mp, (hmem .reset).mp,
    hmem .tick, hmem .hostPoll, hmem .domePoll⟩

end Sys2Proof.Machine
